-- ==== Sys2Proof/Word.lean ====
section
/-! DEFINITION. The widths of the device's words and the names the rest of the model uses for them
(spec 00, "Memory and transactions" and "Time"). -/

namespace Sys2Proof

/-- A data word of the memory bus: 32 bits, little-endian. -/
abbrev Word := BitVec 32

/-- A memory address: 24-bit byte address, the memory is 16 MiB. -/
abbrev Addr := BitVec 24

/-- Billing time: an unsigned 32-bit count of seconds since 2000-01-01 00:00. -/
abbrev Time := BitVec 32

/-- A letting unit slot, 0..255. -/
abbrev UnitId := Fin 256

/-- A meter of the meter table, 0..511. -/
abbrev MeterId := Fin 512

/-- A zone, 0..31: common zones 0..29, HEAT residual 30, COOL residual 31. -/
abbrev ZoneId := Fin 32

/-- An entry of the key pool, 0..2047. -/
abbrev KeyId := Fin 2048

/-- Four words: a 16-byte plan entry or reading record. -/
structure Quad where
  w0 : Word
  w1 : Word
  w2 : Word
  w3 : Word
  deriving DecidableEq, Repr, Inhabited

/-- The two media of energy; accounts are kept separately per medium. -/
inductive Medium where
  | heat
  | cool
  deriving DecidableEq, Repr, Inhabited

/-- One thing for each medium. -/
structure Both (α : Type) where
  heat : α
  cool : α
  deriving DecidableEq, Repr, Inhabited

/-- The part of `b` for medium `m`. -/
def Both.get {α : Type} (b : Both α) : Medium → α
  | .heat => b.heat
  | .cool => b.cool

/-- A pair built medium by medium. -/
def Both.of {α : Type} (f : Medium → α) : Both α := ⟨f .heat, f .cool⟩

end Sys2Proof
end

