-- ==== Sys2Proof/Syntax.lean ====
section
/-! DEFINITION. The commands of the device: one constructor for each row of spec/opcode_table.json, in the
table's order, with the row's operands. -/

namespace Sys2Proof

/-- The lengths of a transaction: 1, 2, 4 or 8 words (00, "Memory and transactions"). -/
inductive Len where
  | w1
  | w2
  | w4
  | w8
  deriving DecidableEq, Repr, Inhabited

/-- How many words a length is. -/
def Len.words : Len → Nat
  | .w1 => 1
  | .w2 => 2
  | .w4 => 4
  | .w8 => 8

/-- A write transaction as its master gave it: address, length, data words, byte enables of each word. -/
structure WriteTxn where
  addr : Addr
  len : Len
  data : List Word
  enables : List (BitVec 4)
  deriving DecidableEq, Repr, Inhabited

/-- A read transaction: address, length, byte enables of each word. -/
structure ReadTxn where
  addr : Addr
  len : Len
  enables : List (BitVec 4)
  deriving DecidableEq, Repr, Inhabited

/-- A transaction of either direction. -/
inductive Txn where
  | write (w : WriteTxn)
  | read (r : ReadTxn)
  deriving DecidableEq, Repr, Inhabited

/-- Memory's answer to a downstream read: ACCEPT with data, or REFUSE (00). -/
inductive MemAnswer where
  | accept (data : List Word)
  | refuse
  deriving DecidableEq, Repr, Inhabited

/-- The sources of the billing clock (04, 4.1). -/
inductive Source where
  | irc
  | xtal
  | tref
  deriving DecidableEq, Repr, Inhabited

/-- The commands: one constructor for each row of spec/opcode_table.json. -/
inductive Instr where
  /-- POWER_ON_RESET (R165): the internal power-on reset. -/
  | powerOnReset
  /-- BRST (R163): the memory-bus reset takes the level `level` (true: asserted); the row alone is its assertion
  (entry 9). -/
  | brst (level : Bool := true)
  /-- PLAN_LOCK_CHANGE (R127): the PLAN_LOCK pin takes the level `level` (true: asserted). -/
  | planLockChange (level : Bool)
  /-- TREF_PULSE (R78): a TREF pulse, `dt` periods (1/32 768 s) after the last clock command. -/
  | trefPulse (dt : Nat)
  /-- SECOND_EDGE (R75): a second edge of the current source. -/
  | secondEdge
  /-- XTAL_SETTLED (R78): the crystal has completed 1024 periods since the request. -/
  | xtalSettled
  /-- SWITCH_TIMEOUT (R80): 4 s since the request. -/
  | switchTimeout
  /-- CLOCK_MONITOR_FAIL (R82): the monitor's measure of `source` has expired. -/
  | clockMonitorFail (source : Source)
  /-- STAGE_DIRECT (R53): stage 2 of the close. -/
  | stageDirect
  /-- STAGE_ZONES (R54): stage 3. -/
  | stageZones
  /-- STAGE_RESIDUAL (R58): stage 4. -/
  | stageResidual
  /-- STAGE_PRICE (R60): stage 5. -/
  | stagePrice
  /-- STAGE_OCCUPANCY (R62): stage 6. -/
  | stageOccupancy
  /-- STAGE_PERIOD (R64): stage 7. -/
  | stagePeriod
  /-- STAGE_SUMMARY (R67): stage 8. -/
  | stageSummary
  /-- STAGE_CHANGES (R69): stage 9. -/
  | stageChanges
  /-- STAGE_END (R70): stage 10. -/
  | stageEnd
  /-- DROP_WRITE (R24): a write into the drop ring. -/
  | dropWrite (t : WriteTxn)
  /-- PLAN_WRITE (R114): a write into the plan area. -/
  | planWrite (t : WriteTxn)
  /-- POSTED_WRITE (R151): a pass-through write. -/
  | postedWrite (t : WriteTxn)
  /-- FORWARDED_READ (R155): a read passed on to memory. -/
  | forwardedRead (t : ReadTxn)
  /-- STATEMENT_RING_ACCESS (R131): a transaction into the statement ring. -/
  | statementRingAccess (t : Txn)
  /-- MISALIGNED_TRANSACTION (R149): a transaction whose address is no multiple of its length. -/
  | misalignedTransaction (t : Txn)
  /-- ACCOUNT_WINDOW_WRITE (R161): a write into the account window. -/
  | accountWindowWrite (t : WriteTxn)
  /-- STATUS_WRITE_REFUSED (R166): a status-block write of wrong form or to a read-only word. -/
  | statusWriteRefused (t : WriteTxn)
  /-- CAUSE_WRITE (R176). -/
  | causeWrite (value : Word)
  /-- MASK_WRITE (R177). -/
  | maskWrite (value : Word)
  /-- TIME_WRITE (R86). -/
  | timeWrite (value : Word)
  /-- TIME_ADJUST_WRITE (R90). -/
  | timeAdjustWrite (value : Word)
  /-- EXPORT_WRITE (R132). -/
  | exportWrite (count : Word)
  /-- START (R169), given through COMMAND. -/
  | start
  /-- CLEAR_ARM (R172), given through COMMAND. -/
  | clearArm
  /-- CLEAR (R174), given through COMMAND. -/
  | clear
  /-- PERIOD_CLOSE (R145), given through COMMAND. -/
  | periodClose
  /-- PERIOD_RESEND (R146), given through COMMAND. -/
  | periodResend
  /-- CLOCK_SWITCH (R77), given through COMMAND with its argument byte. -/
  | clockSwitch (argument : BitVec 8)
  /-- COMMAND_BAD_CODE (R167): a COMMAND write with a code that names no command. -/
  | commandBadCode (code : BitVec 8) (argument : BitVec 8)
  /-- OPEN (R99), given through UNIT_CMD. -/
  | openUnit (slot : UnitId)
  /-- CLOSE (R100), given through UNIT_CMD. -/
  | closeUnit (slot : UnitId)
  /-- FORCE (R101), given through UNIT_CMD. -/
  | forceUnit (slot : UnitId)
  /-- CANCEL (R102), given through UNIT_CMD. -/
  | cancelUnit (slot : UnitId)
  /-- UNIT_CMD_BAD_CODE (R96): a UNIT_CMD write with a code that names no unit command. -/
  | unitCmdBadCode (code : BitVec 8) (slot : UnitId)
  /-- READING_TAKE (R29): the reading processor takes the head record. -/
  | readingTake
  /-- DRAIN_WRITE_ACCEPTED (R152): memory accepts the drain's write. -/
  | drainWriteAccepted
  /-- DRAIN_WRITE_DISCARDED (R153): memory refuses the drain's write. -/
  | drainWriteDiscarded
  /-- READ_ANSWER (R156): memory answers the forwarded read. -/
  | readAnswer (answer : MemAnswer)
  /-- MEMORY_TIMEOUT (R157): the outstanding access is unanswered after 1024 link clocks. -/
  | memoryTimeout
  /-- RECORD_START (R138): the ACTIVE channel requests the port for its first burst. -/
  | recordStart
  /-- FIRST_BURST_ACCEPTED (R138): memory accepts a record's first burst. -/
  | firstBurstAccepted
  /-- RECORD_COMPLETE (R139): memory accepts a record's second burst. -/
  | recordComplete
  /-- RECORD_ABANDONED (R142): memory refuses a burst of a record. -/
  | recordAbandoned
  /-- DISREGARDED_MEMORY_ANSWER (R164): memory answers an access whose answer is disregarded. -/
  | disregardedMemoryAnswer
  deriving DecidableEq, Repr

end Sys2Proof
end

