-- ==== Sys2Proof/Decode.lean ====
section
/-! DEFINITION. The device has no instruction decoder, and spec/opcode_table.json gives no row any bits: its
commands are bus transactions and events, not words. So no word spells a command. -/

namespace Sys2Proof

/-- The command an instruction word spells by the table's bits: none, since no row of the table gives bits
(spec/opcode_table.json: every row's "fields" is empty and none has "fixed"). -/
def decodeTableWord (_nbits _w : Nat) : Option Instr := none

end Sys2Proof
end

