-- ==== Sys2Proof/Config.lean ====
section
/-! DEFINITION. What the manual fixes as a number for the whole device, and the free values: what it
leaves open, as constants with no body. -/

namespace Sys2Proof

/-- The oscillators whose periods the device counts: the internal oscillator, the crystal (04, 4.1) and
the clock of the memory link (R157). -/
inductive Oscillator where
  | irc
  | xtal
  | link
  deriving DecidableEq, Repr, Inhabited

namespace Config

/-- The posted-write buffer holds up to 8 entries (R151). -/
def postedDepth : Nat := 8
/-- The reading queue holds up to 64 entries (R24). -/
def readingDepth : Nat := 64
/-- The change queue holds up to 32 entries (R116). -/
def changeDepth : Nat := 32
/-- Channel I's holding queue holds up to 4 summaries (R134). -/
def holdingDepth : Nat := 4
/-- The statement ring has 2048 slots (R130). -/
def ringSlots : Nat := 2048
/-- Periods of the IRC and of the crystal in one second (R75). -/
def periodsPerSecond : Nat := 32768
/-- Crystal periods after which a requested XTAL has settled (R78). -/
def crystalSettle : Nat := 1024
/-- The 4 s limit of a switch in IRC periods at the nominal rate (R80; entry 20). -/
def switchLimit : Nat := 131072
/-- The 1.5 s measure of TREF in IRC periods at the nominal rate (R82; entry 20). -/
def trefLimit : Nat := 49152
/-- The 1 ms measure of XTAL in IRC periods: the first whole count past 32.768 (R82; entry 20). -/
def xtalLimit : Nat := 33
/-- The memory response limit in link clock periods (R157). -/
def memoryLimit : Nat := 1024
/-- Boundaries in an OPENING or CLOSING state after which the deadline acts (R107). -/
def deadlineLimit : Nat := 8

/-- FREE VALUE (entry 7): what a signed 64-bit accumulator holds where the exact sum `x` lies outside
its range. The manual states no result there. -/
opaque beyond64 (x : Int) : BitVec 64

/-- FREE VALUE (entry 3): whose period passes on the `n`-th idle step. The manual fixes no order of the
oscillators' periods. -/
opaque period (n : Nat) : Oscillator

end Config

end Sys2Proof
end

