-- ==== Sys2Proof/Machine/State.lean ====
section
/-! DEFINITION. The state of the device, block by block as the manual names it, and its value after power-on
reset. Everything is plain data. -/

namespace Sys2Proof.Machine

/-! ## Named values -/

/-- R165. -/
inductive Mode where
  | loading
  | running
  deriving DecidableEq, Repr, Inhabited

/-- R8. -/
inductive MeterKind where
  | unused
  | unit
  | zone
  | plant
  deriving DecidableEq, Repr, Inhabited

/-- R12. -/
inductive MeterState where
  | unused
  | unseen
  | live
  | estimating
  | stale
  deriving DecidableEq, Repr, Inhabited

/-- The outcomes of a reading record (R29), or NONE. -/
inductive ReadingOutcome where
  | none
  | baseline
  | taken
  | duplicate
  | unknownMeter
  | doubtful
  | outOfRange
  | backward
  | implausible
  deriving DecidableEq, Repr, Inhabited

/-- R94, R95. -/
inductive Occupancy where
  | vacant
  | opening
  | occupied
  | closing
  | closed
  deriving DecidableEq, Repr, Inhabited

/-- R76. -/
inductive SwitchState where
  | idle
  | settling
  | settled
  deriving DecidableEq, Repr, Inhabited

/-- R76. -/
inductive SwitchOutcome where
  | none
  | switched
  | switchFailed
  deriving DecidableEq, Repr, Inhabited

/-- Time quality (04, 4.4). -/
inductive Quality where
  | unset
  | good
  | degraded
  deriving DecidableEq, Repr, Inhabited

/-- The billing interval length L (R3). -/
inductive IntervalLen where
  | s900
  | s1800
  | s3600
  deriving DecidableEq, Repr, Inhabited

/-- A meter's scale in Wh per count (R10). -/
inductive Scale where
  | x1
  | x10
  | x100
  | x1000
  deriving DecidableEq, Repr, Inhabited

/-- The write-out channels (07). -/
inductive Channel where
  | i
  | p
  deriving DecidableEq, Repr, Inhabited

/-- R133. -/
inductive ChannelState where
  | idle
  | pending
  | active
  | waitingExport
  deriving DecidableEq, Repr, Inhabited

/-- R133. -/
inductive ChannelOutcome where
  | complete
  | cancelled
  | terminatedMemory
  deriving DecidableEq, Repr, Inhabited

/-- The requesters of the downstream port (R158). -/
inductive Requester where
  | drain
  | read
  | writeOut
  deriving DecidableEq, Repr, Inhabited

/-- The outcomes of commands and plan checks, in the order of their codes 0..17 (R182). -/
inductive CmdOutcome where
  | none
  | unitInUse
  | unitUndefined
  | mediumMismatch
  | keyDuplicate
  | zoneTooLarge
  | zoneEmpty
  | timeUnset
  | done
  | wrongMode
  | wrongState
  | undefinedUnit
  | busy
  | locked
  | periodPending
  | periodBusy
  | nothingHeld
  | badArgument
  deriving DecidableEq, Repr, Inhabited

/-- The call causes, in the order of their bits 0..14 (R176, R182). -/
inductive Cause where
  | queueHalf
  | queueFull
  | intervalClosed
  | periodWritten
  | writeoutFault
  | ringFull
  | summaryLost
  | readingRejected
  | meterStale
  | unitAwaiting
  | unitChanged
  | planRejected
  | clockFail
  | clockEvent
  | memoryFault
  deriving DecidableEq, Repr, Inhabited

/-- The responses of the upstream port; ACCEPT of a read carries its data (00). -/
inductive Response where
  | accept (data : List Word)
  | retry
  | refuse
  deriving DecidableEq, Repr, Inhabited

/-! ## Pins -/

/-- The straps and the level inputs PLAN_LOCK and BRST (00, "Pins and limits"; R163). Their levels after reset
are DESIGN CHOICE (entry 8). -/
structure Pins where
  anchor : BitVec 3
  clksel : BitVec 2
  planLock : Bool
  brst : Bool
  deriving DecidableEq, Repr, Inhabited

/-! ## Memory link (08) -/

/-- The downstream access outstanding, by the requester it belongs to (R157). `disregarded` is an access
whose answer is disregarded: a read dropped by BRST or a burst of a cancelled channel (R164). -/
inductive Access where
  | drain (w : WriteTxn)
  | read (r : ReadTxn)
  | firstBurst (w : WriteTxn)
  | secondBurst (w : WriteTxn)
  | disregarded (t : Txn)
  deriving DecidableEq, Repr, Inhabited

/-- The link unit's state (08, opening table). `age` counts the link clock periods since the access was
issued (R157). -/
structure Link where
  posted : List WriteTxn
  forwarded : Option ReadTxn
  port : Option Access
  age : Nat
  reqDrain : Bool
  reqRead : Bool
  reqWriteOut : Bool
  order : List Requester
  discarded : BitVec 16
  deriving DecidableEq, Repr, Inhabited

/-- R148, R154, R158. -/
def Link.initial : Link :=
  { posted := [], forwarded := none, port := none, age := 0, reqDrain := false, reqRead := false,
    reqWriteOut := false, order := [.drain, .read, .writeOut], discarded := 0 }

/-! ## Reading capture (02) -/

/-- An entry of the reading queue: the record as written, its capture time, its drop slot (R24). -/
structure QueuedReading where
  words : Quad
  capture : Time
  slot : BitVec 6
  deriving DecidableEq, Repr, Inhabited

/-- The interval tallies (R41). -/
structure Tallies where
  taken : BitVec 16
  rejected : BitVec 16
  skewed : BitVec 16
  deriving DecidableEq, Repr, Inhabited

/-- Reading queue, rejected-readings count, tallies of the open interval. -/
structure Capture where
  queue : List QueuedReading
  rejects : BitVec 16
  tallies : Tallies
  deriving DecidableEq, Repr, Inhabited

/-- R26, R35, R41. -/
def Capture.initial : Capture := { queue := [], rejects := 0, tallies := ⟨0, 0, 0⟩ }

/-! ## Plan tables (01, 04) -/

/-- R3. -/
structure Header where
  len : IntervalLen
  lockEnable : Bool
  deriving DecidableEq, Repr, Inhabited

/-- R4. -/
structure UnitEntry where
  area : BitVec 16
  tariff : Fin 4
  deriving DecidableEq, Repr, Inhabited

/-- R8 to R11. -/
structure MeterEntry where
  kind : MeterKind
  medium : Medium
  binding : UnitId
  scale : Scale
  digits : Nat
  ratedMax : Nat
  deriving DecidableEq, Repr, Inhabited

/-- R13. -/
structure ZoneEntry where
  enable : Bool
  medium : Medium
  deriving DecidableEq, Repr, Inhabited

/-- R15; `zone` is none for an empty entry (zone field 63). -/
structure KeyEntry where
  zone : Option ZoneId
  unit : UnitId
  factor : BitVec 16
  deriving DecidableEq, Repr, Inhabited

/-- R92; day number 0 marks the entry unused. -/
structure Holiday where
  day : BitVec 16
  profile : Fin 4
  deriving DecidableEq, Repr, Inhabited

/-- The plan tables. `prices` entry 8 × set + band holds both prices (R19); `dayProfiles` entry 3 × profile + j
holds the bands of slots 16 × j to 16 × j + 15 (R2, R92). -/
structure Plan where
  header : Header
  units : Vector UnitEntry 256
  meters : Vector MeterEntry 512
  zones : Vector ZoneEntry 32
  keys : Vector KeyEntry 2048
  prices : Vector (Both Nat) 32
  dayProfiles : Vector (Vector (Fin 8) 16) 12
  weekMap : Vector (Fin 4) 7
  holidays : Vector Holiday 16
  deriving DecidableEq, Repr

/-- A meter entry after power-on reset and CLEAR (R8). -/
def MeterEntry.initial : MeterEntry :=
  { kind := .unused, medium := .heat, binding := 0, scale := .x1, digits := 5, ratedMax := 1 }

/-- The plan tables after power-on reset and CLEAR (R3, R4, R8, R13, R15, R19, R92). The medium field of the zone
entries 30 and 31, for which R13 gives no value, is DESIGN CHOICE (entry 30). -/
def Plan.initial : Plan :=
  { header := { len := .s900, lockEnable := false }
    units := Vector.replicate 256 { area := 0, tariff := 0 }
    meters := Vector.replicate 512 MeterEntry.initial
    zones := Vector.replicate 32 { enable := false, medium := .heat }
    keys := Vector.replicate 2048 { zone := none, unit := 0, factor := 0 }
    prices := Vector.replicate 32 ⟨0, 0⟩
    dayProfiles := Vector.replicate 12 (Vector.replicate 16 0)
    weekMap := Vector.replicate 7 0
    holidays := Vector.replicate 16 { day := 0, profile := 0 } }

/-! ## Plan changes (06) -/

/-- An entry of the change queue: entry number and the 16 bytes as written (R116). -/
structure Change where
  entry : BitVec 12
  words : Quad
  deriving DecidableEq, Repr, Inhabited

/-- The last plan rejection record (R126). -/
structure Rejection where
  code : CmdOutcome
  entry : BitVec 12
  deriving DecidableEq, Repr, Inhabited

/-! ## Meter live fields (R12) -/

/-- The live fields of one meter. `actual`, `estimated`, `correction` and `mark` are the open accumulator. -/
structure MeterLive where
  state : MeterState
  lastCounter : Word
  lastCapture : Time
  rate : Nat
  debt : Nat
  missed : BitVec 16
  actual : Int
  estimated : Int
  correction : Int
  mark : Bool
  attributed : Int
  lastOutcome : ReadingOutcome
  lastSlot : BitVec 6
  lastTag : Word
  skewed : Bool
  fresh : Bool
  suspect : Bool
  deriving DecidableEq, Repr, Inhabited

/-- The live fields after power-on reset and CLEAR (R12). -/
def MeterLive.initial : MeterLive :=
  { state := .unused, lastCounter := 0, lastCapture := 0, rate := 0, debt := 0, missed := 0, actual := 0,
    estimated := 0, correction := 0, mark := false, attributed := 0, lastOutcome := .none, lastSlot := 0,
    lastTag := 0, skewed := false, fresh := false, suspect := false }

/-! ## Close engine (03) -/

/-- The working values of a zone (R14). -/
structure ZoneWork where
  carry : Int
  pointer : KeyId
  deriving DecidableEq, Repr, Inhabited

/-- The figures of one slot in one medium (R45). -/
structure Figures where
  direct : Int
  zone : Int
  residual : Int
  estimated : Int
  cost : Int
  remainder : Nat
  lastInterval : Int
  intervalSum : Int
  deriving DecidableEq, Repr, Inhabited

/-- R45: every figure is 0 after power-on reset and CLEAR. -/
def Figures.initial : Figures :=
  { direct := 0, zone := 0, residual := 0, estimated := 0, cost := 0, remainder := 0, lastInterval := 0,
    intervalSum := 0 }

/-- The period figures a statement snapshot holds of one medium (R46). -/
structure PeriodFigures where
  direct : Int
  zone : Int
  residual : Int
  estimated : Int
  cost : Int
  deriving DecidableEq, Repr, Inhabited

/-- A statement snapshot (R46). Its unit is the index it stands at in `State.snapshots`. `formed` holds the 16 words of
its record once one has been abandoned, for the rewrite (R184). -/
structure Statement where
  tenancy : BitVec 16
  period : BitVec 16
  final : Bool
  mark : Bool
  openedAt : Time
  closing : Time
  tariff : Fin 4
  figures : Both PeriodFigures
  formed : Option (List Word)
  deriving DecidableEq, Repr, Inhabited

/-- The trailer figures of a period set (R66). -/
structure Trailer where
  period : BitVec 16
  count : Nat
  cost : Both Int
  energy : Both Int
  deriving DecidableEq, Repr, Inhabited

/-- The period state (R47). -/
structure PeriodState where
  number : BitVec 16
  pending : Bool
  trailer : Option Trailer
  deriving DecidableEq, Repr, Inhabited

/-- The change results (R68). -/
structure ChangeResults where
  applied : Bool
  rejected : Nat
  writtenOff : Both Nat
  deriving DecidableEq, Repr, Inhabited

/-- R68. -/
def ChangeResults.initial : ChangeResults := { applied := false, rejected := 0, writtenOff := ⟨0, 0⟩ }

/-- What the interval snapshot holds of one meter (R50). -/
structure SnapMeter where
  actual : Int
  estimated : Int
  correction : Int
  mark : Bool
  kind : MeterKind
  medium : Medium
  binding : UnitId
  deriving DecidableEq, Repr, Inhabited

/-- The stages 2 to 10 of a close (R48). -/
inductive Stage where
  | direct
  | zones
  | residual
  | price
  | occupancy
  | period
  | summary
  | changes
  | finish
  deriving DecidableEq, Repr, Inhabited

/-- The open-interval record of the billing clock (R76). -/
structure OpenInterval where
  nominal : Time
  actual : Time
  partialFlag : Bool
  degraded : Bool
  deriving DecidableEq, Repr, Inhabited

/-- The close in progress: the stage that is due, the interval snapshot (R50, R51), the boundary's billing
time, and the totals the later stages need (R49, R67, R65). -/
structure Close where
  next : Stage
  boundary : Time
  meters : Vector SnapMeter 512
  occ : Vector Occupancy 256
  periodDue : Bool
  tallies : Tallies
  band : Fin 8
  seq : BitVec 32
  interval : OpenInterval
  length : BitVec 32
  estimates : Nat
  stale : Nat
  distributed : Both Int
  finalTaken : Vector Bool 256
  deriving DecidableEq, Repr

/-! ## Billing clock (R76) -/

/-- The billing clock. `crystalPeriods`, `runCount` and `sinceRun` are the settling progress; `trefGuard` the
periods since a switch to TREF while no pulse has been counted (R79); `limit` the 4 s measure (R80);
`trefQuiet` and `xtalQuiet` the monitor's measures (R82). -/
structure Clock where
  time : Time
  phase : Nat
  current : Source
  requested : Option Source
  switch : SwitchState
  lastSwitch : SwitchOutcome
  crystalPeriods : Nat
  runCount : Nat
  sinceRun : Nat
  trefGuard : Option Nat
  limit : Nat
  trefQuiet : Option Nat
  xtalQuiet : Option Nat
  quality : Quality
  adjust : Int
  nextBoundary : Time
  seq : BitVec 32
  interval : OpenInterval
  deriving DecidableEq, Repr, Inhabited

/-- The clock of R76 after power-on reset, with the power-on request of R81 already made. -/
def Clock.initial (clksel : BitVec 2) : Clock :=
  { time := 0
    phase := 0
    current := .irc
    requested := if clksel = 0 then none else if clksel = 2 then some .tref else some .xtal
    switch := if clksel = 0 then .idle else .settling
    lastSwitch := if clksel = 0 then .switched else .none
    crystalPeriods := 0
    runCount := 0
    sinceRun := 0
    trefGuard := none
    limit := 0
    trefQuiet := none
    xtalQuiet := none
    quality := .unset
    adjust := 0
    nextBoundary := 900
    seq := 0
    interval := { nominal := 0, actual := 0, partialFlag := false, degraded := false } }

/-! ## Unit occupancy (R94) -/

/-- The occupancy record of one slot. -/
structure OccRecord where
  state : Occupancy
  tenancy : BitVec 16
  openedAt : Time
  closeCmdAt : Time
  outstanding : Nat
  deadline : Nat
  openedOnEstimate : Bool
  finalsForced : Bool
  cmdSinceBoundary : Bool
  deriving DecidableEq, Repr, Inhabited

/-- An occupancy record after power-on reset and CLEAR, in state `st`. -/
def OccRecord.initial (st : Occupancy) : OccRecord :=
  { state := st, tenancy := 0, openedAt := 0, closeCmdAt := 0, outstanding := 0, deadline := 0,
    openedOnEstimate := false, finalsForced := false, cmdSinceBoundary := false }

/-- The occupancy records after power-on reset and CLEAR: VACANT, slot 0 OCCUPIED (R94). -/
def occInitial : Vector OccRecord 256 :=
  (Vector.replicate 256 (OccRecord.initial .vacant)).set 0 (OccRecord.initial .occupied)

/-! ## Write-out engine (07) -/

/-- The eight figures of a summary in one medium, in Wh (R67). -/
structure SummaryFigures where
  plant : Int
  unitMetered : Int
  zoneMetered : Int
  distributed : Int
  carryAfter : Int
  estimated : Int
  corrections : Int
  writtenOff : Int
  deriving DecidableEq, Repr, Inhabited

/-- An interval summary (R67). -/
structure Summary where
  seq : BitVec 32
  interval : OpenInterval
  length : BitVec 32
  changesApplied : Bool
  rejectedChanges : Nat
  tallies : Tallies
  estimates : Nat
  stale : Nat
  lost : BitVec 16
  figures : Both SummaryFigures
  deriving DecidableEq, Repr, Inhabited

/-- A channel's state and last outcome (R133). -/
structure Chan where
  state : ChannelState
  outcome : ChannelOutcome
  deriving DecidableEq, Repr, Inhabited

/-- The items the channels write (R133, R135). -/
inductive Item where
  | summary
  | statement (unit : UnitId)
  | trailer
  deriving DecidableEq, Repr, Inhabited

/-- How far the record being written has come (R138): it waits for the entries that overlap its slot, or
its first or second burst is requested or issued. -/
inductive RecordStep where
  | waiting
  | first
  | second
  deriving DecidableEq, Repr, Inhabited

/-- The record being written: its item, its 16 words as they were formed, its step (R138). -/
structure Record where
  item : Item
  words : List Word
  step : RecordStep
  deriving DecidableEq, Repr, Inhabited

/-- The write-out engine (R130, R133, R134, R136, R140). -/
structure WriteOut where
  w : BitVec 11
  x : BitVec 11
  u : Nat
  seq : BitVec 32
  lost : BitVec 16
  holding : List Summary
  chanI : Chan
  chanP : Chan
  lastActive : Channel
  record : Option Record
  deriving DecidableEq, Repr, Inhabited

/-- R130, R133, R134, R136, R140. -/
def WriteOut.initial : WriteOut :=
  { w := 0, x := 0, u := 0, seq := 0, lost := 0, holding := [], chanI := ⟨.idle, .complete⟩,
    chanP := ⟨.idle, .complete⟩, lastActive := .p, record := none }

/-! ## Status and call (09) -/

/-- The last command, its outcome and outcome detail (R167). -/
structure CommandRecord where
  code : BitVec 8
  outcome : CmdOutcome
  detail : BitVec 12
  deriving DecidableEq, Repr, Inhabited

/-- The last unit command, its slot and outcome (R168). -/
structure UnitCommandRecord where
  code : BitVec 8
  slot : UnitId
  outcome : CmdOutcome
  deriving DecidableEq, Repr, Inhabited

/-- Mode, call causes and mask, command records, clear-arm flag (R165 to R178). -/
structure Status where
  mode : Mode
  causes : BitVec 15
  mask : BitVec 15
  command : CommandRecord
  unitCommand : UnitCommandRecord
  armed : Bool
  deriving DecidableEq, Repr, Inhabited

/-- Status and call after power-on reset; with CLKSEL 0 the power-on request has raised CLOCK_EVENT, bit 13
(R81, R165, R167, R168, R172, R176, R177). -/
def Status.initial (clksel : BitVec 2) : Status :=
  { mode := .loading
    causes := if clksel = 0 then 0x2000 else 0
    mask := 0
    command := { code := 0, outcome := .none, detail := 0 }
    unitCommand := { code := 0, slot := 0, outcome := .none }
    armed := false }

/-! ## The whole device -/

/-- The state of the device. `answer` is the response last given at the upstream port (entry 12); `idle`
counts idle steps (entry 3); `pending` holds the commands that wait, first in, first out. -/
structure State where
  pins : Pins
  link : Link
  capture : Capture
  plan : Plan
  changes : List Change
  rejection : Rejection
  live : Vector MeterLive 512
  zoneWork : Vector ZoneWork 32
  accounts : Vector (Both Figures) 256
  snapshots : Vector (Option Statement) 256
  period : PeriodState
  results : ChangeResults
  close : Option Close
  occ : Vector OccRecord 256
  out : WriteOut
  clock : Clock
  status : Status
  answer : Option Response
  idle : Nat
  pending : List Instr
  deriving DecidableEq, Repr

/-- Reasons for which the device stops: there are none. A transaction in error is answered REFUSE and the
device goes on (00, "Memory and transactions"), so no meaning raises a fault. -/
inductive Fault where
  deriving DecidableEq, Repr

/-- Reasons for which the model gives no meaning. -/
inductive Refusal where
  /-- Raised by an arm of `exec` whose command has no meaning yet. Safe: the model stops. No arm of this
  model raises it. -/
  | notModelled (mnemonic : String)
  deriving DecidableEq, Repr

/-- The state after a power-on reset with the pins at `pins`: every block at its initial value (R165; the
tables of each chapter), the power-on clock request made (R81). -/
def State.powerOn (pins : Pins) : State :=
  { pins := pins
    link := Link.initial
    capture := Capture.initial
    plan := Plan.initial
    changes := []
    rejection := { code := .none, entry := 0 }
    live := Vector.replicate 512 MeterLive.initial
    zoneWork := Vector.replicate 32 { carry := 0, pointer := 0 }
    accounts := Vector.replicate 256 ⟨Figures.initial, Figures.initial⟩
    snapshots := Vector.replicate 256 none
    period := { number := 0, pending := false, trailer := none }
    results := ChangeResults.initial
    close := none
    occ := occInitial
    out := WriteOut.initial
    clock := Clock.initial pins.clksel
    status := Status.initial pins.clksel
    answer := none
    idle := 0
    pending := [] }

/-- The machine right after power-on reset. The straps are 0, PLAN_LOCK and BRST are released: DESIGN CHOICE
(entry 8). -/
def State.reset : State := State.powerOn { anchor := 0, clksel := 0, planLock := false, brst := false }

end Sys2Proof.Machine
end

