-- ==== Sys2Proof/WellFormed.lean ====
section
/-! DEFINITION. When a command is well formed: a transaction has the shape the bus gives it (00, "Memory and
transactions"), and a row that stands for one case of a word holds an operand of that case. Which range a
transaction falls in depends on the ANCHOR straps, which are state, so it is no part of this check. -/

namespace Sys2Proof

/-- Word-aligned address, as many data words and byte-enable groups as the length says. -/
def WriteTxn.wf (t : WriteTxn) : Bool :=
  t.addr.toNat % 4 == 0 && t.data.length == t.len.words && t.enables.length == t.len.words

/-- Word-aligned address, as many byte-enable groups as the length says. -/
def ReadTxn.wf (t : ReadTxn) : Bool :=
  t.addr.toNat % 4 == 0 && t.enables.length == t.len.words

/-- A transaction of either direction is well formed as its direction asks. -/
def Txn.wf : Txn → Bool
  | .write w => w.wf
  | .read r => r.wf

/-- A transaction is aligned when its address is a multiple of its length in bytes (R149). -/
def WriteTxn.aligned (t : WriteTxn) : Bool := t.addr.toNat % (4 * t.len.words) == 0

/-- A transaction is aligned when its address is a multiple of its length in bytes (R149). -/
def ReadTxn.aligned (t : ReadTxn) : Bool := t.addr.toNat % (4 * t.len.words) == 0

/-- A transaction of either direction is aligned as its direction asks. -/
def Txn.aligned : Txn → Bool
  | .write w => w.aligned
  | .read r => r.aligned

/-- A memory's ACCEPT carries 1, 2, 4 or 8 words. -/
def MemAnswer.wf : MemAnswer → Bool
  | .accept data => data.length == 1 || data.length == 2 || data.length == 4 || data.length == 8
  | .refuse => true

/-- The codes of the COMMAND word that name a command (R167, R182). -/
def commandCodeKnown (code : BitVec 8) : Bool := 1 ≤ code.toNat && code.toNat ≤ 6

/-- The codes of the UNIT_CMD word that name a unit command (R96, R182). -/
def unitCodeKnown (code : BitVec 8) : Bool := 1 ≤ code.toNat && code.toNat ≤ 4

/-- The command has the form its row describes. -/
def Instr.wf : Instr → Bool
  | .dropWrite t => t.wf
  | .planWrite t => t.wf
  | .postedWrite t => t.wf
  | .forwardedRead t => t.wf
  | .statementRingAccess t => t.wf
  | .misalignedTransaction t => t.wf && !t.aligned
  | .accountWindowWrite t => t.wf
  | .statusWriteRefused t => t.wf
  | .clockMonitorFail src => src != .irc
  | .commandBadCode code _ => !commandCodeKnown code
  | .unitCmdBadCode code _ => !unitCodeKnown code
  | .readAnswer a => a.wf
  | .powerOnReset => true
  | .brst _ => true
  | .planLockChange _ => true
  | .trefPulse _ => true
  | .secondEdge => true
  | .xtalSettled => true
  | .switchTimeout => true
  | .stageDirect => true
  | .stageZones => true
  | .stageResidual => true
  | .stagePrice => true
  | .stageOccupancy => true
  | .stagePeriod => true
  | .stageSummary => true
  | .stageChanges => true
  | .stageEnd => true
  | .causeWrite _ => true
  | .maskWrite _ => true
  | .timeWrite _ => true
  | .timeAdjustWrite _ => true
  | .exportWrite _ => true
  | .start => true
  | .clearArm => true
  | .clear => true
  | .periodClose => true
  | .periodResend => true
  | .clockSwitch _ => true
  | .openUnit _ => true
  | .closeUnit _ => true
  | .forceUnit _ => true
  | .cancelUnit _ => true
  | .readingTake => true
  | .drainWriteAccepted => true
  | .drainWriteDiscarded => true
  | .memoryTimeout => true
  | .recordStart => true
  | .firstBurstAccepted => true
  | .recordComplete => true
  | .recordAbandoned => true
  | .disregardedMemoryAnswer => true

end Sys2Proof
end

