-- ==== Sys2Proof/Machine/Operands.lean ====
section
/-! DEFINITION. Operand forms: bit fields of words, what a transaction covers and which range it falls in, and
the layouts of reading records and plan entries with their field checks (R22, R149, R150, R179, R180, R181). -/

namespace Sys2Proof.Machine

/-! ## Bit fields -/

/-- Bits `hi:lo` of a word (10, opening). -/
def bits (w : Word) (hi lo : Nat) : Nat := w.toNat / 2 ^ lo % 2 ^ (hi + 1 - lo)

/-- The word whose bits from `lo` on hold `v`, cut to `width` bits, and whose other bits are 0. -/
def field (lo width v : Nat) : Word := BitVec.ofNat 32 (v % 2 ^ width * 2 ^ lo)

/-- A word put together from its fields (lowest bit, width, value); bits no field names are 0. -/
def packWord (fs : List (Nat × Nat × Nat)) : Word :=
  fs.foldr (fun f acc => field f.1 f.2.1 f.2.2 ||| acc) 0

/-- A flag as a bit. -/
def flag (b : Bool) : Nat := if b then 1 else 0

/-- Byte `b` of an entry: byte `b mod 4` of word `floor(b / 4)` (R180). -/
def byteOf (q : Quad) (b : Fin 16) : Nat :=
  let w := match b.val / 4 with
    | 0 => q.w0
    | 1 => q.w1
    | 2 => q.w2
    | _ => q.w3
  bits w (8 * (b.val % 4) + 7) (8 * (b.val % 4))

/-- The value as a `Fin n` where it is in range. -/
def finOf (n v : Nat) : Option (Fin n) := if h : v < n then some ⟨v, h⟩ else none

/-! ## Transactions -/

/-- The four words of a 4-word write; a word an ill-formed write lacks reads 0 (entry 22). -/
def quadOf (data : List Word) : Quad :=
  { w0 := data.getD 0 0, w1 := data.getD 1 0, w2 := data.getD 2 0, w3 := data.getD 3 0 }

/-- All byte enables of a write are set. -/
def fullEnables (t : WriteTxn) : Bool :=
  t.enables.length == t.len.words && t.enables.all (· == 15)

/-- Two byte spans share an address. -/
def spansMeet (a n b m : Nat) : Bool := decide (a < b + m) && decide (b < a + n)

/-- A write covers some word of the `n` bytes at `a`, whatever its byte enables (R155). -/
def covers (t : WriteTxn) (a n : Nat) : Bool :=
  spansMeet t.addr.toNat (4 * t.len.words) a n

/-- The ranges of R150, with the offset from the anchor base. -/
inductive Region where
  | passThrough
  | plan (off : Nat)
  | drop (off : Nat)
  | status (off : Nat)
  | account (off : Nat)
  | ring (off : Nat)
  deriving DecidableEq, Repr

/-- The anchor base lies at n × 2 MiB (00, "The anchor region"). -/
def anchorBase (anchor : BitVec 3) : Nat := anchor.toNat * 0x200000

/-- The range an address falls in (R150). -/
def classify (anchor : BitVec 3) (a : Addr) : Region :=
  if a.toNat < anchorBase anchor then .passThrough
  else
    let off := a.toNat - anchorBase anchor
    if off < 0x10000 then .plan off
    else if off < 0x10400 then .drop off
    else if off < 0x10440 then .status off
    else if off < 0x11000 then .passThrough
    else if off < 0x1D200 then .account off
    else if off < 0x20000 then .passThrough
    else if off < 0x40000 then .ring off
    else .passThrough

/-- The statement ring slot of an offset in the ring (R130). -/
def slotOfOffset (off : Nat) : BitVec 11 := BitVec.ofNat 11 ((off - 0x20000) / 64)

/-- The byte address of statement ring slot `s` (R130). -/
def slotAddr (anchor : BitVec 3) (s : BitVec 11) : Nat := anchorBase anchor + 0x20000 + 64 * s.toNat

/-! ## Reading records (R179) -/

/-- Meter number of a reading record. -/
def readingMeter (q : Quad) : Nat := bits q.w0 15 0
/-- Quality code of a reading record: 0 ACTUAL, 1 METER_ESTIMATED, any other DOUBTFUL (R23). -/
def readingQuality (q : Quad) : Nat := bits q.w0 23 16
/-- Counter of a reading record. -/
def readingCounter (q : Quad) : Word := q.w1
/-- Controller timestamp of a reading record. -/
def readingTag (q : Quad) : Word := q.w2

/-! ## Plan entries (R2, R180) -/

/-- Which table entry a plan-area offset addresses (R2). -/
inductive EntryId where
  | header
  | unit (i : UnitId)
  | meter (i : MeterId)
  | zone (i : ZoneId)
  | price (i : Fin 32)
  | dayProfile (i : Fin 12)
  | weekMap
  | holiday (i : Fin 16)
  | key (i : KeyId)
  deriving DecidableEq, Repr

/-- The entry number: plan-area offset divided by 16 (R116, R170). -/
def EntryId.number : EntryId → Nat
  | .header => 0
  | .unit i => 256 + i.val
  | .meter i => 512 + i.val
  | .zone i => 1024 + i.val
  | .price i => 1056 + i.val
  | .dayProfile i => 1088 + i.val
  | .weekMap => 1104
  | .holiday i => 1105 + i.val
  | .key i => 2048 + i.val

/-- The entry that has the number `n`; none where R2 lists no entry there. -/
def entryOfNumber (n : Nat) : Option EntryId :=
  if n = 0 then some .header
  else if n < 256 then none
  else if n < 512 then (finOf 256 (n - 256)).map .unit
  else if n < 1024 then (finOf 512 (n - 512)).map .meter
  else if n < 1056 then (finOf 32 (n - 1024)).map .zone
  else if n < 1088 then (finOf 32 (n - 1056)).map .price
  else if n < 1100 then (finOf 12 (n - 1088)).map .dayProfile
  else if n < 1104 then none
  else if n = 1104 then some .weekMap
  else if n < 1121 then (finOf 16 (n - 1105)).map .holiday
  else if n < 2048 then none
  else (finOf 2048 (n - 2048)).map .key

/-- A plan entry with its contents. -/
inductive PlanEntry where
  | header (h : Header)
  | unit (i : UnitId) (e : UnitEntry)
  | meter (i : MeterId) (e : MeterEntry)
  | zone (i : ZoneId) (e : ZoneEntry)
  | price (i : Fin 32) (p : Both Nat)
  | dayProfile (i : Fin 12) (bands : Vector (Fin 8) 16)
  | weekMap (profiles : Vector (Fin 4) 7)
  | holiday (i : Fin 16) (h : Holiday)
  | key (i : KeyId) (k : KeyEntry)
  deriving DecidableEq, Repr

/-- Which entry a plan entry is for. -/
def PlanEntry.id : PlanEntry → EntryId
  | .header _ => .header
  | .unit i _ => .unit i
  | .meter i _ => .meter i
  | .zone i _ => .zone i
  | .price i _ => .price i
  | .dayProfile i _ => .dayProfile i
  | .weekMap _ => .weekMap
  | .holiday i _ => .holiday i
  | .key i _ => .key i

/-- Interval length codes (R180). -/
def intervalOfCode : Nat → Option IntervalLen
  | 0 => some .s900
  | 1 => some .s1800
  | 2 => some .s3600
  | _ => none

/-- Interval length codes (R180). -/
def IntervalLen.code : IntervalLen → Nat
  | .s900 => 0
  | .s1800 => 1
  | .s3600 => 2

/-- Meter kind codes (R180). -/
def kindOfCode : Nat → Option MeterKind
  | 0 => some .unused
  | 1 => some .unit
  | 2 => some .zone
  | 3 => some .plant
  | _ => none

/-- Meter kind codes (R180). -/
def MeterKind.code : MeterKind → Nat
  | .unused => 0
  | .unit => 1
  | .zone => 2
  | .plant => 3

/-- Medium codes (R180). -/
def mediumOfCode : Nat → Option Medium
  | 0 => some .heat
  | 1 => some .cool
  | _ => none

/-- Medium codes (R180). -/
def mediumCode : Medium → Nat
  | .heat => 0
  | .cool => 1

/-- Scale codes (R180). -/
def scaleOfCode : Nat → Option Scale
  | 0 => some .x1
  | 1 => some .x10
  | 2 => some .x100
  | 3 => some .x1000
  | _ => none

/-- Scale codes (R180). -/
def Scale.code : Scale → Nat
  | .x1 => 0
  | .x10 => 1
  | .x100 => 2
  | .x1000 => 3

/-- Header fields: bits 1:0 of word 0 the interval length code, bit 8 the lock enable; the rest reserved. -/
def headerOf (q : Quad) : Option Header :=
  if bits q.w0 7 2 = 0 ∧ bits q.w0 31 9 = 0 ∧ q.w1 = 0 ∧ q.w2 = 0 ∧ q.w3 = 0 then
    (intervalOfCode (bits q.w0 1 0)).map fun len => { len := len, lockEnable := bits q.w0 8 8 == 1 }
  else none

/-- Unit fields. -/
def unitOf (q : Quad) : Option UnitEntry :=
  if bits q.w0 31 24 = 0 ∧ q.w1 = 0 ∧ q.w2 = 0 ∧ q.w3 = 0 then
    (finOf 4 (bits q.w0 23 16)).map fun tariff => { area := BitVec.ofNat 16 (bits q.w0 15 0), tariff := tariff }
  else none

/-- Meter fields: the binding is 0..255, and 0..29 for a ZONE meter. -/
def meterOf (q : Quad) : Option MeterEntry :=
  match kindOfCode (bits q.w0 7 0), mediumOfCode (bits q.w0 15 8), finOf 256 (bits q.w0 31 16),
      scaleOfCode (bits q.w1 7 0) with
  | some kind, some medium, some binding, some scale =>
    if (kind = .zone → binding.val < 30) ∧ 5 ≤ bits q.w1 15 8 ∧ bits q.w1 15 8 ≤ 9 ∧ bits q.w1 31 16 = 0 ∧
        1 ≤ q.w2.toNat ∧ q.w2.toNat ≤ 4000000 ∧ q.w3 = 0 then
      some { kind := kind, medium := medium, binding := binding, scale := scale, digits := bits q.w1 15 8,
             ratedMax := q.w2.toNat }
    else none
  | _, _, _, _ => none

/-- Zone fields. -/
def zoneOf (q : Quad) : Option ZoneEntry :=
  if bits q.w0 7 1 = 0 ∧ bits q.w0 31 16 = 0 ∧ q.w1 = 0 ∧ q.w2 = 0 ∧ q.w3 = 0 then
    (mediumOfCode (bits q.w0 15 8)).map fun medium => { enable := bits q.w0 0 0 == 1, medium := medium }
  else none

/-- Price fields: each price is 0..1 000 000. -/
def priceOf (q : Quad) : Option (Both Nat) :=
  if q.w0.toNat ≤ 1000000 ∧ q.w1.toNat ≤ 1000000 ∧ q.w2 = 0 ∧ q.w3 = 0 then
    some { heat := q.w0.toNat, cool := q.w1.toNat }
  else none

/-- Day-profile fields: byte b is the band of the entry's slot b, 0..7. -/
def dayProfileOf (q : Quad) : Option (Vector (Fin 8) 16) :=
  if ∀ b : Fin 16, byteOf q b < 8 then
    some (Vector.ofFn fun b => Fin.ofNat 8 (byteOf q b))
  else none

/-- Week-map fields: bytes 0..6 name profiles 0..3, bytes 7..15 are reserved. -/
def weekMapOf (q : Quad) : Option (Vector (Fin 4) 7) :=
  if (∀ d : Fin 7, byteOf q (d.castLE (by omega)) < 4) ∧ bits q.w1 31 24 = 0 ∧ q.w2 = 0 ∧ q.w3 = 0 then
    some (Vector.ofFn fun d => Fin.ofNat 4 (byteOf q (d.castLE (by omega))))
  else none

/-- Holiday fields: day number 0..49 710, profile 0..3. -/
def holidayOf (q : Quad) : Option Holiday :=
  if bits q.w0 15 0 ≤ 49710 ∧ bits q.w0 31 24 = 0 ∧ q.w1 = 0 ∧ q.w2 = 0 ∧ q.w3 = 0 then
    (finOf 4 (bits q.w0 23 16)).map fun profile =>
      { day := BitVec.ofNat 16 (bits q.w0 15 0), profile := profile }
  else none

/-- Key fields: zone 0..31, or 63 for an empty entry. -/
def keyOf (q : Quad) : Option KeyEntry :=
  if q.w1 = 0 ∧ q.w2 = 0 ∧ q.w3 = 0 then
    let unit := Fin.ofNat 256 (bits q.w0 15 8)
    let factor := BitVec.ofNat 16 (bits q.w0 31 16)
    if bits q.w0 7 0 = 63 then some { zone := none, unit := unit, factor := factor }
    else (finOf 32 (bits q.w0 7 0)).map fun z => { zone := some z, unit := unit, factor := factor }
  else none

/-- The plan entry the words `q` are at entry number `n`: none where R2 lists no entry or a field check of
R181 fails. -/
def decodeEntry (n : Nat) (q : Quad) : Option PlanEntry :=
  match entryOfNumber n with
  | none => none
  | some .header => (headerOf q).map .header
  | some (.unit i) => (unitOf q).map (.unit i)
  | some (.meter i) => (meterOf q).map (.meter i)
  | some (.zone i) => (zoneOf q).map (.zone i)
  | some (.price i) => (priceOf q).map (.price i)
  | some (.dayProfile i) => (dayProfileOf q).map (.dayProfile i)
  | some .weekMap => (weekMapOf q).map .weekMap
  | some (.holiday i) => (holidayOf q).map (.holiday i)
  | some (.key i) => (keyOf q).map (.key i)

/-! ## The words of a plan entry, from the same layouts -/

/-- Four bytes as a word, the first in bits 7:0. -/
def bytesWord (f : Fin 16 → Nat) (j : Nat) (h : 4 * j + 3 < 16) : Word :=
  packWord [(0, 8, f ⟨4 * j, by omega⟩), (8, 8, f ⟨4 * j + 1, by omega⟩), (16, 8, f ⟨4 * j + 2, by omega⟩),
    (24, 8, f ⟨4 * j + 3, by omega⟩)]

/-- Sixteen bytes as an entry. -/
def bytesQuad (f : Fin 16 → Nat) : Quad :=
  { w0 := bytesWord f 0 (by omega), w1 := bytesWord f 1 (by omega), w2 := bytesWord f 2 (by omega),
    w3 := bytesWord f 3 (by omega) }

/-- The 16 bytes of a plan entry (R180). -/
def encodeEntry : PlanEntry → Quad
  | .header h => { w0 := packWord [(0, 2, h.len.code), (8, 1, flag h.lockEnable)], w1 := 0, w2 := 0, w3 := 0 }
  | .unit _ e => { w0 := packWord [(0, 16, e.area.toNat), (16, 8, e.tariff.val)], w1 := 0, w2 := 0, w3 := 0 }
  | .meter _ e =>
    { w0 := packWord [(0, 8, e.kind.code), (8, 8, mediumCode e.medium), (16, 16, e.binding.val)],
      w1 := packWord [(0, 8, e.scale.code), (8, 8, e.digits)], w2 := BitVec.ofNat 32 e.ratedMax, w3 := 0 }
  | .zone _ e => { w0 := packWord [(0, 1, flag e.enable), (8, 8, mediumCode e.medium)], w1 := 0, w2 := 0, w3 := 0 }
  | .price _ p => { w0 := BitVec.ofNat 32 p.heat, w1 := BitVec.ofNat 32 p.cool, w2 := 0, w3 := 0 }
  | .dayProfile _ bands => bytesQuad fun b => bands[b].val
  | .weekMap profiles => bytesQuad fun b => if h : b.val < 7 then profiles[b.val].val else 0
  | .holiday _ h => { w0 := packWord [(0, 16, h.day.toNat), (16, 8, h.profile.val)], w1 := 0, w2 := 0, w3 := 0 }
  | .key _ k =>
    { w0 := packWord [(0, 8, match k.zone with | some z => z.val | none => 63), (8, 8, k.unit.val),
        (16, 16, k.factor.toNat)], w1 := 0, w2 := 0, w3 := 0 }

/-- The contents lie in the accepted values of R180. -/
def PlanEntry.inRange : PlanEntry → Prop
  | .header _ => True
  | .unit _ _ => True
  | .meter _ e =>
    (e.kind = .zone → e.binding.val < 30) ∧ 5 ≤ e.digits ∧ e.digits ≤ 9 ∧ 1 ≤ e.ratedMax ∧ e.ratedMax ≤ 4000000
  | .zone _ _ => True
  | .price _ p => p.heat ≤ 1000000 ∧ p.cool ≤ 1000000
  | .dayProfile _ _ => True
  | .weekMap _ => True
  | .holiday _ h => h.day.toNat ≤ 49710
  | .key _ _ => True

end Sys2Proof.Machine
end

