-- ==== Sys2Proof/Machine/Flags.lean ====
section
/-! DEFINITION. The flags that are computed or set in one place: the call cause set, the CALL line, LOCKED, and
the saturating counts (R127, R176, R177; 00, "Numbers and notation"). -/

namespace Sys2Proof.Machine

/-- The position of a cause in CAUSE and MASK (R182). -/
def Cause.bit : Cause → Nat
  | .queueHalf => 0
  | .queueFull => 1
  | .intervalClosed => 2
  | .periodWritten => 3
  | .writeoutFault => 4
  | .ringFull => 5
  | .summaryLost => 6
  | .readingRejected => 7
  | .meterStale => 8
  | .unitAwaiting => 9
  | .unitChanged => 10
  | .planRejected => 11
  | .clockFail => 12
  | .clockEvent => 13
  | .memoryFault => 14

/-- The cause set with only `c` in it. -/
def Cause.mask (c : Cause) : BitVec 15 := BitVec.ofNat 15 (2 ^ c.bit)

/-- Raise a cause: it is set, and stays set where it was (R176). -/
def raise (c : Cause) (s : State) : State :=
  { s with status := { s.status with causes := s.status.causes ||| c.mask } }

/-- Raise a cause where a condition holds. -/
def raiseIf (b : Bool) (c : Cause) (s : State) : State := if b then raise c s else s

/-- A cause is set. -/
def State.causeSet (s : State) (c : Cause) : Bool := s.status.causes.getLsbD c.bit

/-- The CALL line: at least one cause is both set and enabled (R177). -/
def State.call (s : State) : Bool := s.status.causes &&& s.status.mask != 0

/-- LOCKED: the lock enable of the header table is set and PLAN_LOCK is asserted (R127). -/
def State.locked (s : State) : Bool := s.plan.header.lockEnable && s.pins.planLock

/-- The mode is RUNNING. -/
def State.running (s : State) : Bool := s.status.mode == .running

/-- A close is in progress (R48). -/
def State.closing (s : State) : Bool := s.close.isSome

/-- A 16-bit count that stops at 65 535. -/
def satSucc (n : BitVec 16) : BitVec 16 := if n = 0xFFFF then n else n + 1

/-- A number as a 16-bit count that stops at 65 535. -/
def satNat (n : Nat) : BitVec 16 := if n < 65536 then BitVec.ofNat 16 n else 0xFFFF

/-- A signed value held to the range of a signed field of `w` bits. -/
def clampInt (w : Nat) (x : Int) : Int :=
  if x < -(2 ^ (w - 1) : Nat) then -(2 ^ (w - 1) : Nat)
  else if (2 ^ (w - 1) : Nat) ≤ x then (2 ^ (w - 1) : Nat) - 1
  else x

/-- The value lies beyond a signed field of `w` bits. -/
def beyondField (w : Nat) (x : Int) : Bool := clampInt w x != x

/-- The value a signed 64-bit accumulator holds after a sum that comes exactly to `x`: `x` itself in range,
else a free value (entry 7). -/
def acc64 (x : Int) : Int :=
  if -9223372036854775808 ≤ x ∧ x < 9223372036854775808 then x else (Config.beyond64 x).toInt

/-- An accumulator after an amount is added: adding nothing leaves it as it is. -/
def accAdd (a x : Int) : Int := if x = 0 then a else acc64 (a + x)

end Sys2Proof.Machine
end

