-- ==== Sys2Proof/Machine/Ops.lean ====
section
/-! DEFINITION. Shared operations over the registers and tables: the upstream answer, the clear-arm flag, the
units of the plan, bound meters, zone membership and sharing (R10, R13, R16, R17, R18, R55, R87, R103, R148,
R172). -/

namespace Sys2Proof.Machine

/-! ## The upstream port -/

/-- Answer the controller (R148). -/
def respond (r : Response) (s : State) : State := { s with answer := some r }

/-- ACCEPT without data, the answer of a write. -/
def acceptWrite (s : State) : State := respond (.accept []) s

/-- The upstream port takes a transaction: no forwarded read is in progress, since the controller has at most
one outstanding (R148; entry 2), and BRST is not asserted (R163). -/
def State.upstreamFree (s : State) : Bool := s.link.forwarded.isNone && !s.pins.brst

/-- An upstream transaction is taken where the port is free for it, and has no effect elsewhere (R148, R163). -/
def takeUpstream (f : State → State) (s : State) : State := if s.upstreamFree then f s else s

/-- Clear the clear-arm flag (R166, R172). -/
def disarm (s : State) : State := { s with status := { s.status with armed := false } }

/-! ## Units -/

/-- The interval length L in seconds (R3). -/
def IntervalLen.seconds : IntervalLen → Nat
  | .s900 => 900
  | .s1800 => 1800
  | .s3600 => 3600

/-- Wh per count (R10). -/
def Scale.wh : Scale → Nat
  | .x1 => 1
  | .x10 => 10
  | .x100 => 100
  | .x1000 => 1000

/-- L of the plan header (R3). -/
def State.intervalSeconds (s : State) : Nat := s.plan.header.len.seconds

/-- The first multiple of `len` greater than `t`, or 0, the wrap, where there is none below 2^32 (R87). -/
def nextGrid (len : Nat) (t : Time) : Time :=
  let n := (t.toNat / len + 1) * len
  if n < 4294967296 then BitVec.ofNat 32 n else 0

/-- The medium of a zone: that of its entry, but HEAT for zone 30 and COOL for zone 31 (R13). -/
def Plan.zoneMedium (p : Plan) (z : ZoneId) : Medium :=
  if z.val = 30 then .heat else if z.val = 31 then .cool else p.zones[z].medium

/-- Slot 0 is always defined; another slot while its floor area is nonzero (R4). -/
def Plan.defined (p : Plan) (u : UnitId) : Bool := u == 0 || p.units[u].area != 0

/-! ## Bound meters (R103) -/

/-- The meter is of kind UNIT and bound to the slot. -/
def Plan.bound (p : Plan) (u : UnitId) (m : MeterId) : Bool :=
  p.meters[m].kind == .unit && p.meters[m].binding == u

/-- How many meters are bound to the slot. -/
def Plan.boundCount (p : Plan) (u : UnitId) : Nat := (List.finRange 512).countP (p.bound u)

/-- How many meters bound to the slot have a clear fresh flag. -/
def staleCount (p : Plan) (live : Vector MeterLive 512) (u : UnitId) : Nat :=
  (List.finRange 512).countP fun m => p.bound u m && !live[m].fresh

/-- Clear the fresh-since-command flag of every meter bound to the slot (R99, R100, R102). -/
def clearFresh (u : UnitId) (s : State) : State :=
  { s with live := Vector.ofFn fun m : MeterId =>
      if s.plan.bound u m then { s.live[m] with fresh := false } else s.live[m] }

/-- Replace the occupancy record of a slot. -/
def setOcc (u : UnitId) (r : OccRecord) (s : State) : State := { s with occ := s.occ.set u r }

/-- Replace the live fields of a meter. -/
def setLive (m : MeterId) (l : MeterLive) (s : State) : State := { s with live := s.live.set m l }

/-- The slot waits for readings: OPENING or CLOSING. -/
def Occupancy.waits : Occupancy → Bool
  | .opening => true
  | .closing => true
  | _ => false

/-- The slot pays for an interval whose snapshot shows it in this state (R52, R95). -/
def Occupancy.pays : Occupancy → Bool
  | .occupied => true
  | .closing => true
  | _ => false

/-! ## Zones and keys -/

/-- A member of a zone: its key index, its slot, its factor (R16, R17). -/
structure Member where
  key : KeyId
  unit : UnitId
  factor : Nat
  deriving DecidableEq, Repr

/-- A member's factor: its share factor, or its slot's floor area where that is 0 (R17). -/
def Plan.factor (p : Plan) (k : KeyEntry) : Nat :=
  if k.factor.toNat = 0 then p.units[k.unit].area.toNat else k.factor.toNat

/-- The members of a zone in rotation order, ascending key index (R16). -/
def Plan.members (p : Plan) (z : ZoneId) : List Member :=
  (List.finRange 2048).filterMap fun k =>
    if p.keys[k].zone = some z then
      some { key := k, unit := p.keys[k].unit, factor := p.factor p.keys[k] }
    else none

/-- The weight of a list of members: the sum of their factors (R17). -/
def weight (ms : List Member) : Nat := (ms.map (·.factor)).sum

/-- A ZONE meter is bound to the zone. -/
def Plan.hasZoneMeter (p : Plan) (z : ZoneId) : Bool :=
  (List.finRange 512).any fun m => p.meters[m].kind == .zone && p.meters[m].binding.val == z.val

/-- The position of the start member: the first whose key index is at or above the pointer, else the first
member (R18). -/
def startPosition (pointer : KeyId) (ms : List Member) : Nat :=
  match ms.findIdx? fun m => decide (pointer ≤ m.key) with
  | some i => i
  | none => 0

/-- The proportional part of a member of a pool `p` shared by weight `w` (R17, R55). -/
def proportional (p w : Nat) (m : Member) : Nat := p * m.factor / w

/-- What a pool leaves after the proportional parts (R55). -/
def sharingRemainder (p : Nat) (ms : List Member) : Nat :=
  p - (ms.map (proportional p (weight ms))).sum

/-- Each member's share of a pool: its proportional part, and 1 Wh of remainder for the members reached
in rotation order from the start member (R55). -/
def shareOut (p : Nat) (pointer : KeyId) (ms : List Member) : List (Member × Nat) :=
  let w := weight ms
  let r := sharingRemainder p ms
  let start := startPosition pointer ms
  ms.zipIdx.map fun x =>
    (x.1, proportional p w x.1 + (if (x.2 + ms.length - start) % ms.length < r then 1 else 0))

/-- Where the rotation pointer stands after the remainder has been handed out (R18). -/
def pointerAfter (p : Nat) (pointer : KeyId) (ms : List Member) : KeyId :=
  let r := sharingRemainder p ms
  if r = 0 then pointer
  else match ms[(startPosition pointer ms + r) % ms.length]? with
    | some m => m.key
    | none => pointer

/-- What becomes of a pool: the shares, and the zone's carry and pointer afterwards. -/
structure PoolResult where
  shares : List (Member × Nat)
  work : ZoneWork
  deriving DecidableEq, Repr

/-- A pool of an enabled zone: carried where it is negative, or where the zone has no members or weight 0,
and shared otherwise (R54, R59). -/
def sharePool (p : Int) (ms : List Member) (z : ZoneWork) : PoolResult :=
  if p < 0 ∨ ms = [] ∨ weight ms = 0 then { shares := [], work := { z with carry := acc64 p } }
  else
    { shares := shareOut p.toNat z.pointer ms
      work := { carry := 0, pointer := pointerAfter p.toNat z.pointer ms } }

/-- The sum of the shares of a pool result. -/
def PoolResult.shared (r : PoolResult) : Nat := (r.shares.map (·.2)).sum

end Sys2Proof.Machine
end

