-- ==== Sys2Proof/Machine/Port.lean ====
section
/-! DEFINITION. The downstream port and its arbiter, and the posted-write buffer at its upstream end (R151 to
R159). -/

namespace Sys2Proof.Machine

/-- The requester waits for the port. -/
def Link.waits (l : Link) : Requester → Bool
  | .drain => l.reqDrain
  | .read => l.reqRead
  | .writeOut => l.reqWriteOut

/-- Withdraw or fulfil a request. -/
def Link.withdraw (l : Link) : Requester → Link
  | .drain => { l with reqDrain := false }
  | .read => { l with reqRead := false }
  | .writeOut => { l with reqWriteOut := false }

/-- The port carries an access of the drain. -/
def Link.draining (l : Link) : Bool :=
  match l.port with
  | some (.drain _) => true
  | _ => false

/-- A burst of the record being written: words 0..7 at the start of slot W, or words 8..15 at its start + 32,
one 8-word burst with all byte enables set (R138). -/
def burst (anchor : BitVec 3) (w : BitVec 11) (words : List Word) (second : Bool) : WriteTxn :=
  { addr := BitVec.ofNat 24 (slotAddr anchor w + if second then 32 else 0)
    len := .w8
    data := (if second then words.drop 8 else words).take 8
    enables := List.replicate 8 15 }

/-- The access a requester issues when granted: the head entry of the buffer (R152), the forwarded read
(R156), the burst the record has come to (R138). -/
def accessFor (s : State) : Requester → Option Access
  | .drain => s.link.posted.head?.map .drain
  | .read => s.link.forwarded.map .read
  | .writeOut =>
    match s.out.record with
    | none => none
    | some r =>
      match r.step with
      | .waiting => none
      | .first => some (.firstBurst (burst s.pins.anchor s.out.w r.words false))
      | .second => some (.secondBurst (burst s.pins.anchor s.out.w r.words true))

/-- The arbiter (R158): while the port is free, the waiting requester that stands highest in the order is
granted, issues its access, and moves to the bottom of the order. -/
def grant (s : State) : State :=
  match s.link.port with
  | some _ => s
  | none =>
    match s.link.order.find? s.link.waits with
    | none => s
    | some r =>
      { s with link := { s.link.withdraw r with
          port := accessFor s r, age := 0, order := s.link.order.filter (· != r) ++ [r] } }

/-- The drain requests the port while the buffer holds an entry and the drain has no access outstanding
(R152). -/
def requestDrain (s : State) : State :=
  if s.link.posted ≠ [] ∧ s.link.draining = false then { s with link := { s.link with reqDrain := true } } else s

/-- Read forwarding requests the port. -/
def requestRead (s : State) : State := { s with link := { s.link with reqRead := true } }

/-- The write-out engine requests the port. -/
def requestWriteOut (s : State) : State := { s with link := { s.link with reqWriteOut := true } }

/-- The port becomes free (R157). -/
def freePort (s : State) : State := { s with link := { s.link with port := none } }

/-- The buffer has a free entry (R151). -/
def State.bufferRoom (s : State) : Bool := s.link.posted.length < Config.postedDepth

/-- Append an accepted write to the buffer; the drain's request and the arbiter follow (R151, R152, R158). -/
def appendPosted (t : WriteTxn) (s : State) : State :=
  grant (requestDrain { s with link := { s.link with posted := s.link.posted ++ [t] } })

/-- A write bound for the buffer: ACCEPT with room, RETRY without (R151). -/
def postWrite (t : WriteTxn) (s : State) : State :=
  if s.bufferRoom then acceptWrite (appendPosted t s) else respond .retry s

/-- Some entry of the buffer covers a word of the `n` bytes at `a` (R138, R155). -/
def State.bufferCovers (s : State) (a n : Nat) : Bool := s.link.posted.any fun w => covers w a n

/-- The end of a drain: the head entry leaves the buffer, the port is free, the next request is raised at the
same event, and the arbiter grants (R152, R153). -/
def endDrain (s : State) : State :=
  grant (requestDrain (freePort { s with link := { s.link with posted := s.link.posted.tail } }))

/-- A write of the drain that memory refused or that timed out (R153). -/
def discardDrain (s : State) : State :=
  endDrain (raise .memoryFault { s with link := { s.link with discarded := satSucc s.link.discarded } })

/-- The end of a forwarded read with the answer relayed to the controller (R156). -/
def endRead (r : Response) (s : State) : State :=
  grant (freePort (respond r { s with link := { s.link with forwarded := none } }))

end Sys2Proof.Machine
end

