-- ==== Sys2Proof/Machine/WriteOut.lean ====
section
/-! DEFINITION. Statement write-out: the two channels, the engine that chooses between them, the layouts of the
records, and the events of a record (07, R130 to R147; R184). -/

namespace Sys2Proof.Machine

/-! ## Channels -/

/-- A channel. -/
def WriteOut.chan (o : WriteOut) : Channel → Chan
  | .i => o.chanI
  | .p => o.chanP

/-- Replace a channel. -/
def WriteOut.setChan (o : WriteOut) (c : Channel) (x : Chan) : WriteOut :=
  match c with
  | .i => { o with chanI := x }
  | .p => { o with chanP := x }

/-- Replace a channel's state, keeping its last outcome. -/
def setChanState (c : Channel) (st : ChannelState) (s : State) : State :=
  { s with out := s.out.setChan c { s.out.chan c with state := st } }

/-- The channel other than this one. -/
def Channel.other : Channel → Channel
  | .i => .p
  | .p => .i

/-- The channel that is ACTIVE, if one is (R136: at most one). -/
def WriteOut.active (o : WriteOut) : Option Channel :=
  if o.chanI.state = .active then some .i else if o.chanP.state = .active then some .p else none

/-- A snapshot with the period mark is held. -/
def State.markHeld (s : State) : Bool := s.snapshots.any fun x => match x with
  | some st => st.mark
  | none => false

/-- Some snapshot is held. -/
def State.snapshotHeld (s : State) : Bool := s.snapshots.any (·.isSome)

/-- The channel has work: summaries in the holding queue, or snapshots held or trailer figures present
(R133). -/
def hasWork (s : State) : Channel → Bool
  | .i => !s.out.holding.isEmpty
  | .p => s.snapshotHeld || s.period.trailer.isSome

/-- The item a channel writes next (R135): channel I the head of its queue; channel P the trailer where it is
present and no period-marked snapshot is held, else the held snapshot with the lowest unit number. -/
def nextItem (s : State) : Channel → Option Item
  | .i => if s.out.holding.isEmpty then none else some .summary
  | .p =>
    if s.period.trailer.isSome && !s.markHeld then some .trailer
    else ((List.finRange 256).find? fun u : UnitId => s.snapshots[u].isSome).map .statement

/-! ## Record layouts (R141, R184) -/

/-- The low and high word of a signed 64-bit figure (10, opening). -/
def words64 (x : Int) : List Word :=
  let n := (BitVec.ofInt 64 x).toNat
  [BitVec.ofNat 32 n, BitVec.ofNat 32 (n / 4294967296)]

/-- A summary figure in kWh, rounded down. -/
def kWh (x : Int) : Int := x / 1000

/-- A signed field of `w` bits of a figure held to the field's range. -/
def clampField (w : Nat) (x : Int) : Nat := (BitVec.ofInt w (clampInt w x)).toNat

/-- Two signed 16-bit figures in one word. -/
def figurePair (a b : Int) : Word :=
  packWord [(0, 16, clampField 16 (kWh a)), (16, 16, clampField 16 (kWh b))]

/-- A summary's figures of one medium, in their order. -/
def SummaryFigures.list (f : SummaryFigures) : List Int :=
  [f.plant, f.unitMetered, f.zoneMetered, f.distributed, f.carryAfter, f.estimated, f.corrections, f.writtenOff]

/-- Four words of figures of one medium. -/
def SummaryFigures.words (f : SummaryFigures) : List Word :=
  [figurePair f.plant f.unitMetered, figurePair f.zoneMetered f.distributed, figurePair f.carryAfter f.estimated,
   figurePair f.corrections f.writtenOff]

/-- An INTERVAL_SUMMARY. -/
def summaryWords (x : Summary) (seq : BitVec 32) : List Word :=
  let saturated := (x.figures.heat.list ++ x.figures.cool.list).any fun v => beyondField 16 (kWh v)
  [packWord [(0, 2, 1), (2, 1, flag x.interval.partialFlag), (3, 1, flag x.interval.degraded),
      (4, 1, flag x.changesApplied), (5, 1, flag saturated), (6, 6, x.rejectedChanges), (16, 16, x.length.toNat)],
   seq, x.seq, x.interval.nominal, x.interval.actual,
   packWord [(0, 16, x.tallies.taken.toNat), (16, 16, x.tallies.rejected.toNat)],
   packWord [(0, 16, x.tallies.skewed.toNat), (16, 16, x.lost.toNat)],
   packWord [(0, 16, x.estimates), (16, 16, x.stale)]]
  ++ x.figures.heat.words ++ x.figures.cool.words

/-- A statement's figures of one medium, in their order. -/
def PeriodFigures.list (f : PeriodFigures) : List Int := [f.direct, f.zone, f.residual, f.estimated, f.cost]

/-- A UNIT_STATEMENT of unit `u`. -/
def statementWords (u : UnitId) (x : Statement) (seq : BitVec 32) : List Word :=
  let figures := x.figures.heat.list ++ x.figures.cool.list
  [packWord [(0, 2, 2), (2, 1, flag x.final), (3, 1, flag x.mark), (4, 1, flag (figures.any (beyondField 32))),
      (5, 2, x.tariff.val), (8, 8, u.val), (16, 16, x.tenancy.toNat)],
   seq, packWord [(0, 16, x.period.toNat)], x.openedAt, x.closing]
  ++ figures.map (fun v => BitVec.ofNat 32 (clampField 32 v)) ++ [0]

/-- A PERIOD_TRAILER. -/
def trailerWords (x : Trailer) (seq : BitVec 32) : List Word :=
  [packWord [(0, 2, 3)], seq, packWord [(0, 16, x.period.toNat), (16, 9, x.count)]]
  ++ words64 x.cost.heat ++ words64 x.cost.cool ++ words64 x.energy.heat ++ words64 x.energy.cool
  ++ [0, 0, 0, 0, 0]

/-- A record written again: the words it was formed with, but for word 1 (R184). -/
def rewriteWords (words : List Word) (seq : BitVec 32) : List Word := words.set 1 seq

/-- The 16 words of a record, formed from its item and the current record sequence number (R138 step 1). The statement
of a snapshot whose record has been abandoned carries the words of that record (R135, R184; entry 10); a summary and
the trailer figures do not change while they are held, so a rewrite of theirs is formed alike. -/
def recordWords (s : State) : Item → List Word
  | .summary => match s.out.holding with
    | x :: _ => summaryWords x s.out.seq
    | [] => []
  | .statement u => match s.snapshots[u] with
    | some x => match x.formed with
      | some words => rewriteWords words s.out.seq
      | none => statementWords u x s.out.seq
    | none => []
  | .trailer => match s.period.trailer with
    | some x => trailerWords x s.out.seq
    | none => []

/-! ## The engine (R136) -/

/-- The record of an item, its words formed from the state (R138 step 1). -/
def formRecord (s : State) (it : Item) : Record := { item := it, words := recordWords s it, step := .waiting }

/-- A channel becomes ACTIVE: its next item is chosen and the record formed, and slot W becomes the record being
written (R135, R138 step 1; entry 10). -/
def activate (c : Channel) (s : State) : State :=
  { s with out := { s.out.setChan c { s.out.chan c with state := .active } with
      lastActive := c, record := (nextItem s c).map (formRecord s) } }

/-- A channel enters WAITING_EXPORT and raises RING_FULL. -/
def enterWaiting (c : Channel) (s : State) : State := raise .ringFull (setChanState c .waitingExport s)

/-- A PENDING channel enters WAITING_EXPORT. -/
def pendingToWaiting (c : Channel) (s : State) : State :=
  if (s.out.chan c).state = .pending then enterWaiting c s else s

/-- The engine looks for a channel to start: while it is free and U < 2048 a PENDING channel becomes ACTIVE,
of two the one other than the channel ACTIVE last; with U at 2048 each PENDING channel waits for an export. -/
def choose (s : State) : State :=
  if s.out.active.isSome then s
  else if s.out.u < Config.ringSlots then
    if s.out.chanI.state = .pending then
      if s.out.chanP.state = .pending then activate s.out.lastActive.other s else activate .i s
    else if s.out.chanP.state = .pending then activate .p s
    else s
  else pendingToWaiting .p (pendingToWaiting .i s)

/-- Work is handed to a channel: an IDLE channel becomes PENDING and the engine chooses, or it waits for an
export where U is 2048; another channel is left as it is (R134, R135, R146). -/
def handWork (c : Channel) (s : State) : State :=
  if (s.out.chan c).state = .idle then
    if s.out.u < Config.ringSlots then choose (setChanState c .pending s) else enterWaiting c s
  else s

/-- Channel I's holding queue takes a summary: at 4, the oldest not being written is dropped first, counted
and SUMMARY_LOST raised; then channel I acts on the offer (R134). -/
def offerSummary (x : Summary) (s : State) : State :=
  let s :=
    if s.out.holding.length < Config.holdingDepth then s
    else raise .summaryLost { s with out := { s.out with
      holding := s.out.holding.eraseIdx (if s.out.chanI.state = .active then 1 else 0)
      lost := satSucc s.out.lost } }
  handWork .i { s with out := { s.out with holding := s.out.holding ++ [x] } }

/-! ## The events of a record -/

/-- The record waits and no entry of the buffer overlaps slot W (R138 step 2). -/
def State.recordReady (s : State) : Bool :=
  match s.out.record with
  | some r => r.step == .waiting && s.out.active.isSome &&
      !s.bufferCovers (slotAddr s.pins.anchor s.out.w) 64
  | none => false

/-- The record being written comes to a step (R138). -/
def advanceRecord (st : RecordStep) (s : State) : State :=
  { s with out := { s.out with record := s.out.record.map fun r => { r with step := st } } }

/-- RECORD_START: the wait is over, and the port is requested for the first burst (R138 step 3). -/
def execRecordStart (s : State) : Host.Outcome State Fault Refusal :=
  .next (if s.recordReady then grant (requestWriteOut (advanceRecord .first s)) else s)

/-- FIRST_BURST_ACCEPTED: the port is requested for the second burst and becomes free (R138). -/
def execFirstBurstAccepted (s : State) : Host.Outcome State Fault Refusal :=
  match s.link.port with
  | some (.firstBurst _) =>
    .next (grant (freePort (requestWriteOut (advanceRecord .second s))))
  | _ => .next s

/-- Release the item of a completed record (R139): the head summary; the slot's snapshot, with the slot moved
from CLOSED to VACANT where it carried the FINAL flag (R111); the trailer figures. -/
def releaseItem (it : Item) (s : State) : State :=
  match it with
  | .summary => { s with out := { s.out with holding := s.out.holding.tail } }
  | .statement u =>
    let released := { s with snapshots := s.snapshots.set u none }
    match s.snapshots[u] with
    | some x =>
      if x.final = true ∧ s.occ[u].state = .closed then
        raise .unitChanged (setOcc u { s.occ[u] with state := .vacant } released)
      else released
    | none => released
  | .trailer => raise .periodWritten { s with period := { s.period with trailer := none } }

/-- The channel's next state after a completed record (R133, R139). -/
def afterRecord (c : Channel) (s : State) : State :=
  if hasWork s c then
    if s.out.u < Config.ringSlots then setChanState c .pending s else enterWaiting c s
  else setChanState c .idle s

/-- A record of channel `c` is complete (R139): W, U and the sequence number rise, the outcome is COMPLETE, the
item is released, the channel takes its next state and the engine chooses. -/
def completeRecord (c : Channel) (s : State) : State :=
  let counted := { s with out := { s.out.setChan c { s.out.chan c with outcome := .complete } with
    w := s.out.w + 1, u := s.out.u + 1, seq := s.out.seq + 1, record := none } }
  let released := match s.out.record with
    | some r => releaseItem r.item counted
    | none => counted
  choose (afterRecord c released)

/-- RECORD_COMPLETE: memory accepts the second burst (R139). -/
def execRecordComplete (s : State) : Host.Outcome State Fault Refusal :=
  match s.link.port, s.out.active with
  | some (.secondBurst _), some c => .next (grant (freePort (completeRecord c s)))
  | _, _ => .next s

/-- The item of the record being written stays held, and the snapshot of a statement keeps the words of its record
for the rewrite (R142, R184). -/
def keepItem (s : State) : State :=
  match s.out.record with
  | some ⟨.statement u, words, _⟩ => { s with
      snapshots := s.snapshots.set u (s.snapshots[u].map fun x => { x with formed := some words }) }
  | _ => s

/-- A record of channel `c` is abandoned with an outcome: W, U, the sequence number and the item stay (R142,
R143). -/
def abandonRecord (c : Channel) (o : ChannelOutcome) (s : State) : State :=
  { keepItem s with out := { s.out.setChan c { state := .idle, outcome := o } with record := none } }

/-- A burst failed: memory refused it or it timed out (R142). -/
def failRecord (s : State) : State :=
  match s.out.active with
  | some c => choose (raise .writeoutFault (abandonRecord c .terminatedMemory s))
  | none => s

/-- RECORD_ABANDONED: memory refuses a burst (R142). -/
def execRecordAbandoned (s : State) : Host.Outcome State Fault Refusal :=
  match s.link.port with
  | some (.firstBurst _) => .next (grant (freePort (failRecord s)))
  | some (.secondBurst _) => .next (grant (freePort (failRecord s)))
  | _ => .next s

/-- A burst already issued for a cancelled channel runs on, its answer disregarded; a request of the engine
that waits is withdrawn (R164). -/
def Link.dropWriteOut (l : Link) : Link :=
  { l with
    reqWriteOut := false
    port := match l.port with
      | some (.firstBurst w) => some (.disregarded (.write w))
      | some (.secondBurst w) => some (.disregarded (.write w))
      | p => p }

/-- Cancel the ACTIVE channel, where there is one (R143, R144, R164). -/
def cancelActive (s : State) : State :=
  match s.out.active with
  | some c => abandonRecord c .cancelled { s with link := s.link.dropWriteOut }
  | none => s

/-! ## Export (R132, R137) -/

/-- A channel in WAITING_EXPORT becomes PENDING. -/
def waitingToPending (c : Channel) (s : State) : State :=
  if (s.out.chan c).state = .waitingExport then setChanState c .pending s else s

/-- An accepted export of `n` records: X advances, U falls, and where n is 1 or more the waiting channels
resume and the engine chooses. -/
def exportRecords (n : Nat) (s : State) : State :=
  let moved := { s with out := { s.out with x := s.out.x + BitVec.ofNat 11 n, u := s.out.u - n } }
  if n = 0 then moved else choose (waitingToPending .p (waitingToPending .i moved))

/-- Slot `slot` is one of the U unexported slots that begin at X (R130). -/
def WriteOut.unexported (o : WriteOut) (slot : BitVec 11) : Bool := (slot - o.x).toNat < o.u

/-- The slot is the record being written: it is W and a channel is ACTIVE (R131). -/
def WriteOut.beingWritten (o : WriteOut) (slot : BitVec 11) : Bool := slot == o.w && o.active.isSome

end Sys2Proof.Machine
end

