-- ==== Sys2Proof/Machine/Occupancy.lean ====
section
/-! DEFINITION. Unit occupancy: the unit commands and the decisions at the boundary (05, R94 to R111), and the
statement snapshots they take (R63). -/

namespace Sys2Proof.Machine

/-! ## Unit commands -/

/-- The answer of OPEN for a slot 1..255 (R97, R98). -/
def openOutcome (s : State) (u : UnitId) : CmdOutcome :=
  if u = 0 then .wrongState
  else if s.occ[u].state ≠ .vacant then .wrongState
  else if s.running && !s.plan.defined u then .undefinedUnit
  else .done

/-- The answer of CLOSE (R97, R98). -/
def closeOutcome (s : State) (u : UnitId) : CmdOutcome :=
  if u = 0 then .wrongState
  else match s.occ[u].state with
    | .occupied => .done
    | .opening => if s.running then .done else .wrongState
    | _ => .wrongState

/-- The answer of FORCE and of CANCEL: DONE for a CLOSING slot in RUNNING (R97, R98). -/
def closingOutcome (s : State) (u : UnitId) : CmdOutcome :=
  if u = 0 then .wrongState
  else if s.running && s.occ[u].state == .closing then .done
  else .wrongState

/-- What OPEN answered DONE does (R99, R107). -/
def openEffect (u : UnitId) (s : State) : State :=
  let r := { s.occ[u] with
    tenancy := s.occ[u].tenancy + 1, closeCmdAt := 0, openedOnEstimate := false, finalsForced := false,
    deadline := 0, cmdSinceBoundary := true }
  if s.running then
    clearFresh u (setOcc u { r with state := .opening, openedAt := 0, outstanding := s.plan.boundCount u } s)
  else
    raise .unitChanged
      (clearFresh u (setOcc u { r with state := .occupied, openedAt := s.clock.time, outstanding := 0 } s))

/-- What CLOSE answered DONE does (R100, R107). -/
def closeEffect (u : UnitId) (s : State) : State :=
  let r := { s.occ[u] with closeCmdAt := s.clock.time, deadline := 0, cmdSinceBoundary := true }
  if s.running && s.occ[u].state == .occupied then
    clearFresh u (setOcc u { r with
      state := .closing, finalsForced := false, outstanding := s.plan.boundCount u } s)
  else
    raise .unitChanged (clearFresh u (setOcc u { r with state := .vacant, outstanding := 0 } s))

/-- What FORCE answered DONE does (R101). -/
def forceEffect (u : UnitId) (s : State) : State := setOcc u { s.occ[u] with finalsForced := true } s

/-- What CANCEL answered DONE does (R102, R107). -/
def cancelEffect (u : UnitId) (s : State) : State :=
  raise .unitChanged (clearFresh u (setOcc u { s.occ[u] with
    state := .occupied, closeCmdAt := 0, deadline := 0, outstanding := 0, finalsForced := false,
    cmdSinceBoundary := true } s))

/-- Record the last unit command and answer its write ACCEPT (R168). -/
def finishUnitCommand (code : BitVec 8) (u : UnitId) (o : CmdOutcome) (s : State) : State :=
  acceptWrite { s with status := { s.status with unitCommand := { code := code, slot := u, outcome := o } } }

/-- A unit command: its effect where the outcome is DONE, its record in any case (R96). -/
def unitCommand (code : BitVec 8) (u : UnitId) (o : CmdOutcome) (effect : State → State) (s : State) : State :=
  finishUnitCommand code u o (if o = .done then effect s else s)

/-- A UNIT_CMD write, by its command code (R96, R182). -/
def unitCmdWrite (code : BitVec 8) (u : UnitId) (s : State) : State :=
  match code.toNat with
  | 1 => unitCommand code u (openOutcome s u) (openEffect u) s
  | 2 => unitCommand code u (closeOutcome s u) (closeEffect u) s
  | 3 => unitCommand code u (closingOutcome s u) (forceEffect u) s
  | 4 => unitCommand code u (closingOutcome s u) (cancelEffect u) s
  | _ => unitCommand code u .badArgument id s

/-- OPEN. -/
def execOpen (u : UnitId) (s : State) : Host.Outcome State Fault Refusal :=
  .next (takeUpstream (fun s => unitCmdWrite 1 u (disarm s)) s)

/-- CLOSE. -/
def execClose (u : UnitId) (s : State) : Host.Outcome State Fault Refusal :=
  .next (takeUpstream (fun s => unitCmdWrite 2 u (disarm s)) s)

/-- FORCE. -/
def execForce (u : UnitId) (s : State) : Host.Outcome State Fault Refusal :=
  .next (takeUpstream (fun s => unitCmdWrite 3 u (disarm s)) s)

/-- CANCEL. -/
def execCancel (u : UnitId) (s : State) : Host.Outcome State Fault Refusal :=
  .next (takeUpstream (fun s => unitCmdWrite 4 u (disarm s)) s)

/-- UNIT_CMD_BAD_CODE. -/
def execUnitCmdBadCode (code : BitVec 8) (u : UnitId) (s : State) : Host.Outcome State Fault Refusal :=
  .next (takeUpstream (fun s => unitCmdWrite code u (disarm s)) s)

/-! ## Decisions at the boundary -/

/-- The deadline count of a waiting slot rises where the snapshot shows the same state and no command has
come since the boundary; it stays at 8 (R107). -/
def advanceDeadline (snap : Occupancy) (r : OccRecord) : OccRecord :=
  if r.state.waits ∧ snap = r.state ∧ r.cmdSinceBoundary = false ∧ r.deadline < Config.deadlineLimit then
    { r with deadline := r.deadline + 1 }
  else r

/-- A CLOSING slot's finals are satisfied (R103). -/
def OccRecord.finalsSatisfied (r : OccRecord) : Bool :=
  r.outstanding == 0 || r.finalsForced || Config.deadlineLimit ≤ r.deadline

/-- The decision on one slot after its deadline count has been advanced (R108, R109). `boundary` is the billing
time of this close's boundary, `held` the slot's snapshot-held flag. -/
def decideSlot (boundary : Time) (snap : Occupancy) (held : Bool) (r0 : OccRecord) : OccRecord :=
  let r := advanceDeadline snap r0
  match r.state with
  | .opening =>
    if r.outstanding = 0 then
      { r with state := .occupied, openedAt := boundary, deadline := 0, outstanding := 0 }
    else if Config.deadlineLimit ≤ r.deadline then
      { r with state := .occupied, openedAt := boundary, deadline := 0, outstanding := 0, openedOnEstimate := true }
    else r
  | .closing =>
    if r.finalsSatisfied && !held then { r with state := .closed, deadline := 0, outstanding := 0 } else r
  | _ => r

/-- A CLOSING slot is left with its finals unsatisfied: UNIT_AWAITING (R109). -/
def awaitsFinals (snap : Occupancy) (r0 : OccRecord) : Bool :=
  let r := advanceDeadline snap r0
  r.state == .closing && !r.finalsSatisfied

/-- The occupancy records after stage 6; slot 0 takes no part (R94). -/
def decideAll (c : Close) (s : State) : Vector OccRecord 256 :=
  Vector.ofFn fun u : UnitId =>
    if u = 0 then s.occ[u] else decideSlot c.boundary c.occ[u] s.snapshots[u].isSome s.occ[u]

/-! ## Statement snapshots -/

/-- The period figures of an account (R46). -/
def Figures.period (f : Figures) : PeriodFigures :=
  { direct := f.direct, zone := f.zone, residual := f.residual, estimated := f.estimated, cost := f.cost }

/-- The period figures return to 0; the cost remainder, the last interval energy and the interval sum stay
(R45). -/
def Figures.clearPeriod (f : Figures) : Figures :=
  { f with direct := 0, zone := 0, residual := 0, estimated := 0, cost := 0 }

/-- The statement snapshot of a slot (R46, R63, R64). -/
def statementOf (s : State) (u : UnitId) (boundary : Time) (final mark : Bool) : Statement :=
  { tenancy := s.occ[u].tenancy, period := s.period.number, final := final, mark := mark,
    openedAt := s.occ[u].openedAt, closing := boundary, tariff := s.plan.units[u].tariff,
    figures := ⟨s.accounts[u].heat.period, s.accounts[u].cool.period⟩, formed := none }

/-- The accounts with the period figures of the slots `p` returned to 0. -/
def clearPeriods (p : UnitId → Bool) (a : Vector (Both Figures) 256) : Vector (Both Figures) 256 :=
  Vector.ofFn fun u : UnitId => if p u then ⟨a[u].heat.clearPeriod, a[u].cool.clearPeriod⟩ else a[u]

end Sys2Proof.Machine
end

