-- ==== Sys2Proof/Machine/Changes.lean ====
section
/-! DEFINITION. Plan entries placed in the tables, their effect on the meters' live fields, the consistency checks
of stage 9 and of START (06, R118 to R126; R105, R170). -/

namespace Sys2Proof.Machine

/-! ## Placing an entry -/

/-- The entry's contents replace the table entry it is for (R115, R121, R125). -/
def PlanEntry.place (e : PlanEntry) (p : Plan) : Plan :=
  match e with
  | .header h => { p with header := h }
  | .unit i x => { p with units := p.units.set i x }
  | .meter i x => { p with meters := p.meters.set i x }
  | .zone i x => { p with zones := p.zones.set i x }
  | .price i x => { p with prices := p.prices.set i x }
  | .dayProfile i x => { p with dayProfiles := p.dayProfiles.set i x }
  | .weekMap x => { p with weekMap := x }
  | .holiday i x => { p with holidays := p.holidays.set i x }
  | .key i x => { p with keys := p.keys.set i x }

/-- Kind, medium, scale and modulus digits are a meter's identity (R122). -/
def sameIdentity (a b : MeterEntry) : Bool :=
  a.kind == b.kind && a.medium == b.medium && a.scale == b.scale && a.digits == b.digits

/-- A meter reset to UNSEEN (R123). The open accumulator, and the reading mark in it, stand as they are
(entry 33). -/
def MeterLive.reset (l : MeterLive) : MeterLive :=
  { l with state := .unseen, debt := 0, missed := 0, attributed := 0, rate := 0, suspect := false, skewed := false,
           fresh := false }

/-- The live fields after a meter's entry changes from `old` to `new` (R122). -/
def meterLiveAfter (old new : MeterEntry) (l : MeterLive) : MeterLive :=
  if old.kind = .unused then
    if new.kind = .unused then l else { l with state := .unseen }
  else if new.kind = .unused then MeterLive.initial
  else if sameIdentity old new then l
  else l.reset

/-- The debt written off by the change (R124): that of a meter deleted or reset. -/
def debtWrittenOff (old new : MeterEntry) (l : MeterLive) : Nat :=
  if old.kind ≠ .unused ∧ (new.kind = .unused ∨ sameIdentity old new = false) then l.debt else 0

/-- A meter entry applied: plan fields and live fields (R122). -/
def applyMeter (i : MeterId) (e : MeterEntry) (s : State) : State :=
  setLive i (meterLiveAfter s.plan.meters[i] e s.live[i]) { s with plan := (PlanEntry.meter i e).place s.plan }

/-- An entry applied to the tables, with a meter entry's effect on its live fields (R115, R121, R122, R125). -/
def applyEntry (e : PlanEntry) (s : State) : State :=
  match e with
  | .meter i x => applyMeter i x s
  | e => { s with plan := e.place s.plan }

/-- The change touches the bound meters of the slot: it was or becomes bound to it, and more than the rated
maximum changed (R105). -/
def touchesSlot (old new : MeterEntry) (u : UnitId) : Bool :=
  !(sameIdentity old new && old.binding == new.binding) &&
    ((old.kind == .unit && old.binding == u) || (new.kind == .unit && new.binding == u))

/-- A UNIT meter rebound to another slot takes no freshness with it (R105). -/
def rebound (old new : MeterEntry) : Bool :=
  old.kind == .unit && new.kind == .unit && old.binding != new.binding

/-- What unit occupancy does at the application of a meter change (R105): the fresh flag of a rebound meter is
cleared, and the outstanding count of every waiting slot touched is recomputed. `s` holds the change. -/
def occupancyAfterMeter (i : MeterId) (old new : MeterEntry) (s : State) : State :=
  let s := if rebound old new then setLive i { s.live[i] with fresh := false } s else s
  { s with occ := Vector.ofFn fun u : UnitId =>
      if touchesSlot old new u && s.occ[u].state.waits then
        { s.occ[u] with outstanding := staleCount s.plan s.live u }
      else s.occ[u] }

/-- Add a written-off debt to the change results, in the meter's medium before the change (R124). -/
def addWrittenOff (m : Medium) (n : Nat) (r : ChangeResults) : ChangeResults :=
  match m with
  | .heat => { r with writtenOff := { r.writtenOff with heat := r.writtenOff.heat + n } }
  | .cool => { r with writtenOff := { r.writtenOff with cool := r.writtenOff.cool + n } }

/-! ## The checks of stage 9 (R119, R120) -/

/-- A non-empty key names the slot. -/
def Plan.keyNames (p : Plan) (u : UnitId) : Bool :=
  (List.finRange 2048).any fun k => p.keys[k].zone.isSome && p.keys[k].unit == u

/-- A UNIT meter is bound to the slot. -/
def Plan.unitMeterBound (p : Plan) (u : UnitId) : Bool := (List.finRange 512).any (p.bound u)

/-- The slot is a member of the zone with share factor 0. -/
def Plan.memberByArea (p : Plan) (z : ZoneId) (u : UnitId) : Bool :=
  (List.finRange 2048).any fun k => p.keys[k].zone == some z && p.keys[k].unit == u && p.keys[k].factor == 0

/-- The slot is one of 1..255 and has floor area 0. -/
def Plan.undefinedSlot (p : Plan) (u : UnitId) : Bool := u != 0 && p.units[u].area == 0

/-- A non-empty key at an index other than `k` names the same zone and slot. -/
def Plan.keyDuplicated (p : Plan) (k : KeyId) (z : ZoneId) (u : UnitId) : Bool :=
  (List.finRange 2048).any fun j => j != k && p.keys[j].zone == some z && p.keys[j].unit == u

/-- The zone's weight (R17). -/
def Plan.zoneWeight (p : Plan) (z : ZoneId) : Nat := weight (p.members z)

/-- Tests of a unit entry (R120). `q` is the plan with the entry in place. -/
def checkUnit (s : State) (q : Plan) (i : UnitId) (e : UnitEntry) : Option CmdOutcome :=
  if s.plan.units[i].area = e.area then none
  else if i ≠ 0 ∧ e.area = 0 ∧ s.occ[i].state ≠ .vacant then some .unitInUse
  else if i ≠ 0 ∧ e.area = 0 ∧ (s.plan.unitMeterBound i || s.plan.keyNames i) then some .unitUndefined
  else if (List.finRange 32).any fun z => q.zones[z].enable && q.memberByArea z i && q.zoneWeight z == 0 then
    some .zoneEmpty
  else none

/-- A ZONE meter's medium differs from that of the zone it is bound to (R119). -/
def Plan.zoneMediumDiffers (p : Plan) (e : MeterEntry) : Bool :=
  match finOf 32 e.binding.val with
  | some z => e.kind == .zone && e.medium != p.zoneMedium z
  | none => false

/-- The enabled common zone the meter was bound to as a ZONE meter is left with no ZONE meter (R120). -/
def leavesZoneEmpty (q : Plan) (old : MeterEntry) : Bool :=
  match finOf 32 old.binding.val with
  | some z => old.kind == .zone && z.val < 30 && q.zones[z].enable && !q.hasZoneMeter z
  | none => false

/-- Tests of a meter entry (R120). -/
def checkMeter (s : State) (q : Plan) (i : MeterId) (e : MeterEntry) : Option CmdOutcome :=
  if e.kind = .unit ∧ s.plan.undefinedSlot e.binding then some .unitUndefined
  else if s.plan.zoneMediumDiffers e then some .mediumMismatch
  else if leavesZoneEmpty q s.plan.meters[i] then some .zoneEmpty
  else none

/-- A ZONE meter bound to the zone has a medium other than `m`. -/
def Plan.zoneMeterOtherMedium (p : Plan) (z : ZoneId) (m : Medium) : Bool :=
  (List.finRange 512).any fun j =>
    p.meters[j].kind == .zone && p.meters[j].binding.val == z.val && p.meters[j].medium != m

/-- An enabled zone has weight 0, or is common and has no ZONE meter (R119). -/
def Plan.zoneEmpty (p : Plan) (z : ZoneId) : Bool :=
  p.zoneWeight z == 0 || (z.val < 30 && !p.hasZoneMeter z)

/-- Tests of a zone entry (R120). -/
def checkZone (s : State) (q : Plan) (z : ZoneId) (e : ZoneEntry) : Option CmdOutcome :=
  if (!e.enable && !(s.plan.members z).isEmpty) || (z.val < 30 && s.plan.zoneMeterOtherMedium z e.medium) then
    some .mediumMismatch
  else if e.enable && q.zoneEmpty z then some .zoneEmpty
  else none

/-- The zone `k` named before the change is enabled, `k` leaves it, and its weight is then 0 (R120). -/
def leavesWeightless (q : Plan) (old new : KeyEntry) : Bool :=
  match old.zone with
  | some z => old.zone != new.zone && q.zones[z].enable && q.zoneWeight z == 0
  | none => false

/-- Tests of a key entry (R120). -/
def checkKey (s : State) (q : Plan) (k : KeyId) (e : KeyEntry) : Option CmdOutcome :=
  match e.zone with
  | none => if leavesWeightless q s.plan.keys[k] e then some .zoneEmpty else none
  | some z =>
    if s.plan.undefinedSlot e.unit then some .unitUndefined
    else if s.plan.zones[z].enable = false then some .mediumMismatch
    else if s.plan.keyDuplicated k z e.unit then some .keyDuplicate
    else if 255 < (q.members z).length then some .zoneTooLarge
    else if leavesWeightless q s.plan.keys[k] e || q.zoneWeight z == 0 then some .zoneEmpty
    else none

/-- The first consistency check an entry fails at stage 9, or none (R119, R120). -/
def checkEntry (s : State) (e : PlanEntry) : Option CmdOutcome :=
  match e with
  | .unit i x => checkUnit s (e.place s.plan) i x
  | .meter i x => checkMeter s (e.place s.plan) i x
  | .zone i x => checkZone s (e.place s.plan) i x
  | .key i x => checkKey s (e.place s.plan) i x
  | .header _ => none
  | .price _ _ => none
  | .dayProfile _ _ => none
  | .weekMap _ => none
  | .holiday _ _ => none

/-! ## Application at stage 9 (R118) -/

/-- An entry that passes: applied, with CHANGES_APPLIED set, a meter's debt written off and unit occupancy
acting on it (R118, R122, R124, R105). -/
def applyChange (e : PlanEntry) (s : State) : State :=
  let s := { s with results := { s.results with applied := true } }
  match e with
  | .meter i x =>
    let old := s.plan.meters[i]
    let off := debtWrittenOff old x s.live[i]
    occupancyAfterMeter i old x (applyMeter i x { s with results := addWrittenOff old.medium off s.results })
  | e => applyEntry e s

/-- An entry that fails with `code`: dropped and recorded (R126). -/
def dropChange (code : CmdOutcome) (n : BitVec 12) (s : State) : State :=
  raise .planRejected { s with
    rejection := { code := code, entry := n }, results := { s.results with rejected := s.results.rejected + 1 } }

/-- One entry of the change queue, checked against the tables as they stand (R118). An entry whose words are
no plan entry cannot have entered the queue; it leaves without effect (entry 15). -/
def handleChange (s : State) (c : Change) : State :=
  match decodeEntry c.entry.toNat c.words with
  | none => s
  | some e =>
    match checkEntry s e with
    | none => applyChange e s
    | some code => dropChange code c.entry s

/-- Stage 9: the entries present are handled from the head (R69, R118). -/
def handleChanges (s : State) : State := s.changes.foldl handleChange { s with changes := [] }

/-! ## The plan check of START (R170) -/

/-- Tests of a meter at START, in order. -/
def startMeter (p : Plan) (m : MeterId) : Option (CmdOutcome × Nat) :=
  let e := p.meters[m]
  if e.kind = .unit ∧ p.undefinedSlot e.binding then some (.unitUndefined, 512 + m.val)
  else if p.zoneMediumDiffers e then some (.mediumMismatch, 512 + m.val)
  else none

/-- Tests of a zone at START, in order. -/
def startZone (p : Plan) (z : ZoneId) : Option (CmdOutcome × Nat) :=
  if 255 < (p.members z).length then some (.zoneTooLarge, 1024 + z.val)
  else if p.zones[z].enable && p.zoneEmpty z then some (.zoneEmpty, 1024 + z.val)
  else none

/-- Tests of a key at START, in order. -/
def startKey (p : Plan) (k : KeyId) : Option (CmdOutcome × Nat) :=
  match p.keys[k].zone with
  | none => none
  | some z =>
    if p.undefinedSlot p.keys[k].unit then some (.unitUndefined, 2048 + k.val)
    else if p.zones[z].enable = false then some (.mediumMismatch, 2048 + k.val)
    else if p.keyDuplicated k z p.keys[k].unit then some (.keyDuplicate, 2048 + k.val)
    else none

/-- The first check the whole plan fails, with its entry number: entries in ascending entry number (R170). -/
def startFailure (p : Plan) : Option (CmdOutcome × Nat) :=
  ((List.finRange 512).findSome? (startMeter p)).or
    (((List.finRange 32).findSome? (startZone p)).or ((List.finRange 2048).findSome? (startKey p)))

end Sys2Proof.Machine
end

