-- ==== Sys2Proof/Machine/Close.lean ====
section
/-! DEFINITION. The interval close: stage 1 at the boundary event and stages 2 to 10 (03, R45 to R74). -/

namespace Sys2Proof.Machine

/-! ## Stage 1: estimates (R49) -/

/-- The meter has missed the closing interval: LIVE, ESTIMATING or STALE with a clear reading mark. -/
def MeterLive.misses (l : MeterLive) : Bool :=
  (l.state == .live || l.state == .estimating || l.state == .stale) && !l.mark

/-- The meter goes STALE at this boundary: ESTIMATING, and its missed count comes to 5. -/
def MeterLive.goesStale (l : MeterLive) : Bool :=
  l.misses && l.state == .estimating && decide (5 ≤ (satSucc l.missed).toNat)

/-- The meter receives an estimate at this boundary. -/
def MeterLive.isEstimated (l : MeterLive) : Bool := l.misses && l.state != .stale && !l.goesStale

/-- The boundary estimate (R49). -/
def estimateMeter (l : MeterLive) : MeterLive :=
  if l.isEstimated then
    { l with state := .estimating, missed := satSucc l.missed, debt := l.debt + l.rate,
             estimated := accAdd l.estimated l.rate, attributed := accAdd l.attributed l.rate }
  else if l.misses then { l with state := .stale, missed := satSucc l.missed }
  else l

/-- A fresh open accumulator (R50). -/
def MeterLive.clearOpen (l : MeterLive) : MeterLive :=
  { l with actual := 0, estimated := 0, correction := 0, mark := false }

/-- What the snapshot takes of a meter after its estimate (R50). -/
def snapMeter (e : MeterEntry) (l : MeterLive) : SnapMeter :=
  { actual := l.actual, estimated := l.estimated, correction := l.correction, mark := l.mark, kind := e.kind,
    medium := e.medium, binding := e.binding }

/-- A meter's snapshot energy (R50). -/
def SnapMeter.energy (m : SnapMeter) : Int := m.actual + m.estimated + m.correction

/-! ## The band (R93) -/

/-- The profile of a day: that of the lowest-numbered holiday entry holding the day number, else the one the
week map names. Day number 0 marks an entry unused (R92). -/
def dayProfileFor (p : Plan) (day : Nat) : Fin 4 :=
  match (List.finRange 16).find? fun h =>
      p.holidays[h].day != 0 && p.holidays[h].day.toNat == day with
  | some h => p.holidays[h].profile
  | none => p.weekMap[(day + 5) % 7]'(Nat.mod_lt _ (by omega))

/-- The band of a profile for a half-hour slot 0..47. -/
def bandOf (p : Plan) (profile : Fin 4) (slot : Fin 48) : Fin 8 :=
  (p.dayProfiles[3 * profile.val + slot.val / 16]'(by omega))[slot.val % 16]'(by omega)

/-- The band of the interval with nominal start `t`. -/
def lookupBand (p : Plan) (t : Time) : Fin 8 :=
  bandOf p (dayProfileFor p (t.toNat / 86400)) ⟨t.toNat % 86400 / 1800, by omega⟩

/-! ## Stage 1: the snapshot (R50, R51) -/

/-- The interval snapshot at the boundary `b`, from the state with the estimates made. -/
def takeSnapshot (b : Time) (before s : State) : Close :=
  { next := .direct
    boundary := b
    meters := Vector.ofFn fun m : MeterId => snapMeter s.plan.meters[m] s.live[m]
    occ := s.occ.map (·.state)
    periodDue := s.period.pending
    tallies := s.capture.tallies
    band := lookupBand s.plan s.clock.interval.nominal
    seq := s.clock.seq
    interval := s.clock.interval
    length := b - s.clock.interval.actual
    estimates := (List.finRange 512).countP fun m : MeterId => before.live[m].isEstimated
    stale := (List.finRange 512).countP fun m : MeterId => s.live[m].state == .stale
    distributed := ⟨0, 0⟩
    finalTaken := Vector.replicate 256 false }

/-- Stage 1 at the boundary event `b`: estimates, snapshot, fresh accumulators, tallies returned to 0, the
command-since-boundary flags cleared (R49 to R51, R107). -/
def beginClose (b : Time) (s : State) : State :=
  let estimated := { s with live := s.live.map estimateMeter }
  raiseIf (s.live.any (·.goesStale)) .meterStale
    { estimated with
      close := some (takeSnapshot b s estimated)
      live := estimated.live.map (·.clearOpen)
      capture := { s.capture with tallies := ⟨0, 0, 0⟩ }
      occ := s.occ.map fun r => { r with cmdSinceBoundary := false } }

/-! ## Crediting (R52) -/

/-- The crediting test: the slot where the snapshot shows it OCCUPIED or CLOSING, else slot 0. -/
def Close.credited (c : Close) (u : UnitId) : UnitId := if c.occ[u].pays then u else 0

/-- The accounts with every slot's figures of every medium rewritten. -/
def mapFigures (f : UnitId → Medium → Figures → Figures) (a : Vector (Both Figures) 256) :
    Vector (Both Figures) 256 :=
  Vector.ofFn fun u : UnitId => ⟨f u .heat a[u].heat, f u .cool a[u].cool⟩

/-! ## Stage 2: direct energy (R53) -/

/-- The meters the snapshot shows of a kind and medium. -/
def Close.metersOf (c : Close) (k : MeterKind) (m : Medium) : List SnapMeter :=
  c.meters.toList.filter fun x => x.kind == k && x.medium == m

/-- The UNIT meters of a medium whose energy is credited to the slot. -/
def Close.creditedMeters (c : Close) (u : UnitId) (m : Medium) : List SnapMeter :=
  (c.metersOf .unit m).filter fun x => c.credited x.binding == u

/-- Direct energy booked to one slot and medium. -/
def Figures.bookDirect (energy estimated : Int) (f : Figures) : Figures :=
  { f with direct := accAdd f.direct energy, estimated := accAdd f.estimated estimated,
           intervalSum := accAdd f.intervalSum energy }

/-- Stage 2. -/
def stageDirect (c : Close) (s : State) : State :=
  { s with
    accounts := mapFigures (fun u m f =>
      let ms := c.creditedMeters u m
      f.bookDirect ((ms.map (·.energy)).sum) ((ms.map (·.estimated)).sum)) s.accounts
    close := some { c with next := .zones } }

/-! ## Stage 3: common zones (R54 to R56) -/

/-- The shares credited to a slot. -/
def Close.creditedShares (c : Close) (shares : List (Member × Nat)) (u : UnitId) : Nat :=
  ((shares.filter fun x => c.credited x.1.unit == u).map (·.2)).sum

/-- The ZONE meters bound to a zone. -/
def Close.zoneMeters (c : Close) (z : ZoneId) : List SnapMeter :=
  c.meters.toList.filter fun x => x.kind == .zone && x.binding.val == z.val

/-- The pool given to a common zone at this close, without the carry (R57). -/
def Close.zonePool (c : Close) (z : ZoneId) : Int := ((c.zoneMeters z).map (·.energy)).sum

/-- What becomes of an enabled common zone's pool. -/
def zoneResult (c : Close) (s : State) (z : ZoneId) : PoolResult :=
  sharePool (c.zonePool z + s.zoneWork[z].carry) (s.plan.members z) s.zoneWork[z]

/-- The enabled common zones. -/
def commonZones (p : Plan) : List ZoneId := (List.finRange 32).filter fun z => z.val < 30 && p.zones[z].enable

/-- Zone energy booked to one slot and medium. -/
def Figures.bookZone (energy : Int) (f : Figures) : Figures :=
  { f with zone := accAdd f.zone energy, intervalSum := accAdd f.intervalSum energy }

/-- Stage 3. -/
def stageZones (c : Close) (s : State) : State :=
  let results := (commonZones s.plan).map fun z => (z, zoneResult c s z)
  { s with
    accounts := mapFigures (fun u m f =>
      f.bookZone (((results.filter fun r => s.plan.zoneMedium r.1 == m).map fun r =>
        c.creditedShares r.2.shares u).sum : Nat)) s.accounts
    zoneWork := Vector.ofFn fun z : ZoneId =>
      if z.val < 30 ∧ s.plan.zones[z].enable then (zoneResult c s z).work else s.zoneWork[z]
    close := some { c with next := .residual } }

/-! ## Stage 4: the residual (R58, R59) -/

/-- The sum of the snapshot energies of the meters of a kind and medium. -/
def Close.sumOf (c : Close) (k : MeterKind) (m : Medium) : Int := ((c.metersOf k m).map (·.energy)).sum

/-- A ZONE meter bound to an enabled common zone. -/
def feedsCommonZone (p : Plan) (x : SnapMeter) : Bool :=
  match finOf 32 x.binding.val with
  | some z => z.val < 30 && p.zones[z].enable
  | none => false

/-- The residual of a medium (R58). -/
def residual (c : Close) (p : Plan) (m : Medium) : Int :=
  c.sumOf .plant m - c.sumOf .unit m - (((c.metersOf .zone m).filter (feedsCommonZone p)).map (·.energy)).sum

/-- The residual zone of a medium (R13). -/
def residualZone : Medium → ZoneId
  | .heat => 30
  | .cool => 31

/-- What becomes of a residual zone's pool: the whole of it carried where the zone is disabled (R59). -/
def residualResult (c : Close) (s : State) (m : Medium) : PoolResult :=
  let z := residualZone m
  let p := residual c s.plan m + s.zoneWork[z].carry
  if s.plan.zones[z].enable then sharePool p (s.plan.members z) s.zoneWork[z]
  else { shares := [], work := { s.zoneWork[z] with carry := acc64 p } }

/-- Residual energy booked to one slot and medium. -/
def Figures.bookResidual (energy : Int) (f : Figures) : Figures :=
  { f with residual := accAdd f.residual energy, intervalSum := accAdd f.intervalSum energy }

/-- Stage 4. -/
def stageResidual (c : Close) (s : State) : State :=
  let results : Both PoolResult := Both.of (residualResult c s)
  { s with
    accounts := mapFigures (fun u m f => f.bookResidual (c.creditedShares (results.get m).shares u)) s.accounts
    zoneWork := (s.zoneWork.set 30 results.heat.work).set 31 results.cool.work
    close := some { c with next := .price, distributed := ⟨results.heat.shared, results.cool.shared⟩ } }

/-! ## Stage 5: pricing (R60, R61) -/

/-- The price of a tariff set, band and medium (R19). -/
def Plan.price (p : Plan) (tariff : Fin 4) (band : Fin 8) (m : Medium) : Nat :=
  (p.prices[8 * tariff.val + band.val]'(by omega)).get m

/-- One slot and medium priced: N = E × price + remainder, the quotient rounded down goes to the period cost. -/
def Figures.priced (price : Nat) (f : Figures) : Figures :=
  let n := f.intervalSum * price + f.remainder
  { f with cost := accAdd f.cost (n / 1000), remainder := (n % 1000).toNat, lastInterval := f.intervalSum,
           intervalSum := 0 }

/-- Stage 5. -/
def stagePrice (c : Close) (s : State) : State :=
  { s with
    accounts := mapFigures (fun u m f => f.priced (s.plan.price s.plan.units[u].tariff c.band m)) s.accounts
    close := some { c with next := .occupancy } }

/-! ## Stage 6: occupancy (R62, R63) -/

/-- The slot moves from CLOSING to CLOSED at this stage. -/
def closesNow (c : Close) (s : State) (u : UnitId) : Bool :=
  s.occ[u].state == .closing && (decideAll c s)[u].state == .closed

/-- The slot moves from OPENING to OCCUPIED at this stage. -/
def opensNow (c : Close) (s : State) (u : UnitId) : Bool :=
  s.occ[u].state == .opening && (decideAll c s)[u].state == .occupied

/-- Stage 6: the decisions, the FINAL snapshots, the causes, and channel P's new work (R62, R63, R108, R109,
R135). -/
def stageOccupancy (c : Close) (s : State) : State :=
  let closed := Vector.ofFn (closesNow c s)
  let changed := (List.finRange 256).any fun u => closesNow c s u || opensNow c s u
  let awaiting := (List.finRange 256).any fun u : UnitId => u != 0 && awaitsFinals c.occ[u] s.occ[u]
  let decided := raiseIf awaiting .unitAwaiting (raiseIf changed .unitChanged { s with
    occ := decideAll c s
    snapshots := Vector.ofFn fun u : UnitId =>
      if closed[u] then some (statementOf s u c.boundary true false) else s.snapshots[u]
    accounts := clearPeriods (fun u => closed[u]) s.accounts
    close := some { c with next := .period, finalTaken := closed } })
  if closed.any id then handWork .p decided else decided

/-! ## Stage 7: the period (R64 to R66) -/

/-- The slot is of the period set: slot 0, or a slot the snapshot shows OCCUPIED or CLOSING. -/
def Close.inPeriodSet (c : Close) (u : UnitId) : Bool := u == 0 || c.occ[u].pays

/-- The snapshots after stage 7: a slot of the set that received a FINAL snapshot at stage 6 of this close keeps
it, marked (R65; entry 13 where it is written already, entry 10 where its record has been formed); every other
slot of the set gets one. -/
def periodSnapshots (c : Close) (s : State) : Vector (Option Statement) 256 :=
  Vector.ofFn fun u : UnitId =>
    if c.inPeriodSet u then
      if c.finalTaken[u] then s.snapshots[u].map fun x => { x with mark := true }
      else some (statementOf s u c.boundary false true)
    else s.snapshots[u]

/-- The snapshots of the period set. -/
def periodSet (c : Close) (snaps : Vector (Option Statement) 256) : List Statement :=
  (List.finRange 256).filterMap fun u : UnitId => if c.inPeriodSet u then snaps[u] else none

/-- The energy of a statement's figures: direct, zone and residual. -/
def PeriodFigures.energy (f : PeriodFigures) : Int := f.direct + f.zone + f.residual

/-- The trailer figures of a period set (R66). -/
def trailerOf (number : BitVec 16) (set : List Statement) : Trailer :=
  { period := number
    count := set.length
    cost := Both.of fun m => acc64 ((set.map fun x => (x.figures.get m).cost).sum)
    energy := Both.of fun m => acc64 ((set.map fun x => (x.figures.get m).energy).sum) }

/-- Stage 7. -/
def stagePeriod (c : Close) (s : State) : State :=
  if c.periodDue then
    let snaps := periodSnapshots c s
    handWork .p { s with
      snapshots := snaps
      accounts := clearPeriods (fun u => c.inPeriodSet u && !c.finalTaken[u]) s.accounts
      period := { number := s.period.number + 1, pending := false,
                  trailer := some (trailerOf s.period.number (periodSet c snaps)) }
      close := some { c with next := .summary } }
  else { s with close := some { c with next := .summary } }

/-! ## Stage 8: the interval summary (R67) -/

/-- The figures of the summary in one medium. -/
def summaryFigures (c : Close) (s : State) (m : Medium) : SummaryFigures :=
  let all := c.meters.toList.filter fun x => x.medium == m
  { plant := c.sumOf .plant m
    unitMetered := c.sumOf .unit m
    zoneMetered := c.sumOf .zone m
    distributed := c.distributed.get m
    carryAfter := s.zoneWork[residualZone m].carry
    estimated := (all.map (·.estimated)).sum
    corrections := (all.map (·.correction)).sum
    writtenOff := s.results.writtenOff.get m }

/-- The interval summary of the closing interval. -/
def summaryOf (c : Close) (s : State) : Summary :=
  { seq := c.seq, interval := c.interval, length := c.length, changesApplied := s.results.applied,
    rejectedChanges := s.results.rejected, tallies := c.tallies, estimates := c.estimates, stale := c.stale,
    lost := s.out.lost, figures := Both.of (summaryFigures c s) }

/-- Stage 8: the summary is built, the change results return to their initial values (R68), and the summary is
offered to channel I. -/
def stageSummary (c : Close) (s : State) : State :=
  offerSummary (summaryOf c s) { s with results := ChangeResults.initial, close := some { c with next := .changes } }

/-! ## Stages 9 and 10 (R69, R70) -/

/-- Stage 9. -/
def stageChanges (c : Close) (s : State) : State :=
  handleChanges { s with close := some { c with next := .finish } }

/-- Stage 10: INTERVAL_CLOSED, the snapshot discarded, the reading processor resumed. -/
def stageFinish (_c : Close) (s : State) : State := raise .intervalClosed { s with close := none }

/-- What a stage does. -/
def stageEffect : Stage → Close → State → State
  | .direct => stageDirect
  | .zones => stageZones
  | .residual => stageResidual
  | .price => stagePrice
  | .occupancy => stageOccupancy
  | .period => stagePeriod
  | .summary => stageSummary
  | .changes => stageChanges
  | .finish => stageFinish

/-- A stage runs where a close is in progress and the stage is the one that is due: the stages follow in order,
each starting when the one before it has ended (R48; entry 1). -/
def runStage (st : Stage) (s : State) : State :=
  match s.close with
  | some c => if c.next = st then stageEffect st c s else s
  | none => s

/-- The stages in their order. -/
def stageOrder : List Stage :=
  [.direct, .zones, .residual, .price, .occupancy, .period, .summary, .changes, .finish]

/-- The close in progress brought to its end: every stage that is still due, in order (entry 6). -/
def finishClose (s : State) : State := stageOrder.foldl (fun t st => runStage st t) s

/-! ## The stage commands -/

/-- STAGE_DIRECT. -/
def execStageDirect (s : State) : Host.Outcome State Fault Refusal := .next (runStage .direct s)
/-- STAGE_ZONES. -/
def execStageZones (s : State) : Host.Outcome State Fault Refusal := .next (runStage .zones s)
/-- STAGE_RESIDUAL. -/
def execStageResidual (s : State) : Host.Outcome State Fault Refusal := .next (runStage .residual s)
/-- STAGE_PRICE. -/
def execStagePrice (s : State) : Host.Outcome State Fault Refusal := .next (runStage .price s)
/-- STAGE_OCCUPANCY. -/
def execStageOccupancy (s : State) : Host.Outcome State Fault Refusal := .next (runStage .occupancy s)
/-- STAGE_PERIOD. -/
def execStagePeriod (s : State) : Host.Outcome State Fault Refusal := .next (runStage .period s)
/-- STAGE_SUMMARY. -/
def execStageSummary (s : State) : Host.Outcome State Fault Refusal := .next (runStage .summary s)
/-- STAGE_CHANGES. -/
def execStageChanges (s : State) : Host.Outcome State Fault Refusal := .next (runStage .changes s)
/-- STAGE_END. -/
def execStageEnd (s : State) : Host.Outcome State Fault Refusal := .next (runStage .finish s)

end Sys2Proof.Machine
end

