-- ==== Sys2Proof/Machine/Clock.lean ====
section
/-! DEFINITION. The billing clock: second edges and boundaries, the switch of sources, the monitor, time quality
and adjustment (04, R75 to R91). -/

namespace Sys2Proof.Machine

/-! ## Time quality (R85, R89) -/

/-- Time quality becomes `q`; where it is DEGRADED in RUNNING, the open interval is marked (R89; in LOADING no
interval is open, entry 16). -/
def setQuality (q : Quality) (s : State) : State :=
  { s with clock := { s.clock with
      quality := q
      interval := if q = .degraded ∧ s.running then { s.clock.interval with degraded := true }
                  else s.clock.interval } }

/-- The quality a set time has on a source: GOOD on XTAL and TREF, DEGRADED on IRC (R85). -/
def qualityOn : Source → Quality
  | .irc => .degraded
  | .xtal => .good
  | .tref => .good

/-- Time quality after a switch that ends SWITCHED on `src` (R85). -/
def qualityAfterSwitch (src : Source) (q : Quality) : Quality :=
  if q = .unset then .unset else qualityOn src

/-! ## Boundaries (R88, R91) -/

/-- The next boundary after the boundary `b`: b + L, or 0, the wrap (R88). -/
def boundaryAfter (b : Time) (len : Nat) : Time :=
  if b.toNat + len < 4294967296 then b + BitVec.ofNat 32 len else 0

/-- The adjustment applied at the boundary `b`: the pending one, but a positive one is not applied at the last
grid point before the wrap (R91). -/
def adjustmentAt (b : Time) (len : Nat) (pending : Int) : Int :=
  if 4294967296 ≤ b.toNat + len ∧ 0 < pending then 0 else pending

/-- Steps 2 to 5 of R88 at the boundary `b`: sequence number, adjustment, next boundary, open-interval record. -/
def clockAtBoundary (b : Time) (len : Nat) (k : Clock) : Clock :=
  let a := adjustmentAt b len k.adjust
  let t := b + BitVec.ofInt 32 a
  { k with
    seq := k.seq + 1
    time := t
    adjust := k.adjust - a
    nextBoundary := boundaryAfter b len
    interval := { nominal := b, actual := t, partialFlag := false, degraded := k.quality == .degraded } }

/-- The interval boundary event (R88). A close still in progress has ended before it (R48; entry 6). -/
def boundaryEvent (s : State) : State :=
  let b := s.clock.time
  let s := beginClose b (finishClose s)
  { s with clock := clockAtBoundary b s.intervalSeconds s.clock }

/-! ## The switch (R77 to R81) -/

/-- A switch ends SWITCHED: at its edge, or at once for the current source (R77, R79). -/
def endSwitched (src : Source) (s : State) : State :=
  setQuality (qualityAfterSwitch src s.clock.quality) (raise .clockEvent
    { s with clock := { s.clock with requested := none, switch := .idle, lastSwitch := .switched } })

/-- The switch takes place at a second edge (R79): the new source counts from phase 0, or, for TREF, from the
first pulse 0.5 s or more after the edge. -/
def completeSwitch (s : State) : State :=
  match s.clock.requested with
  | none => s
  | some src =>
    endSwitched src { s with clock := { s.clock with
      current := src, phase := 0, trefGuard := if src = .tref then some 0 else none } }

/-- A request for another source than the current one (R77): settling starts from nothing, and IRC is settled
at the request (R78). -/
def requestSource (src : Source) (s : State) : State :=
  { s with clock := { s.clock with
      requested := some src
      switch := if src = .irc then .settled else .settling
      crystalPeriods := 0
      runCount := 0
      sinceRun := 0
      limit := 0
      trefQuiet := if src = .tref then none else s.clock.trefQuiet
      xtalQuiet := if src = .xtal then none else s.clock.xtalQuiet } }

/-- A switch is abandoned (R80, R84). -/
def abandonSwitch (s : State) : State :=
  raise .clockEvent
    { s with clock := { s.clock with requested := none, switch := .idle, lastSwitch := .switchFailed } }

/-- A request stands for the source. -/
def Clock.seeks (k : Clock) (src : Source) : Bool := k.requested == some src && k.switch != .idle

/-- The crystal has settled (R78). -/
def settleCrystal (s : State) : State :=
  if s.clock.requested = some .xtal ∧ s.clock.switch = .settling then
    { s with clock := { s.clock with switch := .settled, crystalPeriods := Config.crystalSettle } }
  else s

/-- The 4 s limit acts on a switch that has not settled (R80). -/
def timeoutSwitch (s : State) : State :=
  if s.clock.switch = .settling then abandonSwitch s else s

/-- The monitor's measure of a source: the IRC periods since its last edge or pulse, none until a requested
source has given one (R82). -/
def Clock.quiet (k : Clock) : Source → Option Nat
  | .irc => none
  | .xtal => k.xtalQuiet
  | .tref => k.trefQuiet

/-- The monitor's measure of a source stands at `n`; the IRC has none. -/
def Clock.setQuiet (src : Source) (n : Nat) (k : Clock) : Clock :=
  match src with
  | .irc => k
  | .xtal => { k with xtalQuiet := some n }
  | .tref => { k with trefQuiet := some n }

/-- An edge or pulse of a source restarts its measure (R82). -/
def Clock.restart (src : Source) (k : Clock) : Clock := k.setQuiet src 0

/-- The monitor watches XTAL or TREF while it is current, and while a switch seeks it from the first edge or
pulse it has given since the request (R82). -/
def Clock.watches (k : Clock) (src : Source) : Bool :=
  src != .irc && (k.current == src || (k.seeks src && (k.quiet src).isSome))

/-- The current source fails over to IRC (R83). A TREF settling interval under way keeps the periods counted so far,
and periods of the IRC are added to them (entry 36). -/
def failOver (src : Source) (s : State) : State :=
  setQuality (if s.clock.quality = .unset then .unset else .degraded)
    { s with clock := { s.clock with
        current := .irc, phase := if src = .tref then 16384 else s.clock.phase, trefGuard := none } }

/-- The monitor declares a source failed: failover of the current source (R83), or the end of the switch that
seeks it (R84); nothing for a source it does not watch (R82; entry 17). -/
def failSource (src : Source) (s : State) : State :=
  if s.clock.watches src then
    raise .clockFail (if s.clock.current = src then failOver src s else abandonSwitch s)
  else s

/-! ## Second edges (R75) -/

/-- The next boundary in LOADING, recomputed (R87). -/
def recomputeBoundary (s : State) : State :=
  { s with clock := { s.clock with nextBoundary := nextGrid s.intervalSeconds s.clock.time } }

/-- A second edge of the current source: billing time rises by 1, a boundary is raised where it is reached in
RUNNING, and a settled switch takes place (R75, R79, R87, R88). -/
def tickSecond (s : State) : State :=
  let s := { s with clock := { s.clock with time := s.clock.time + 1, phase := 0 } }
  let s :=
    if s.running then (if s.clock.time = s.clock.nextBoundary then boundaryEvent s else s)
    else recomputeBoundary s
  if s.clock.switch = .settled then completeSwitch s else s

/-- `dt` periods pass with no second edge among them: periods of the current source, which move its phase count
and, on XTAL, are edges that restart its measure; on TREF they move the half-second guard (R82; entries 4, 24). -/
def Clock.pass (dt : Nat) (k : Clock) : Clock :=
  let phase := min (k.phase + dt) (Config.periodsPerSecond - 1)
  match k.current with
  | .irc => { k with sinceRun := k.sinceRun + dt, phase := phase }
  | .xtal => { k with sinceRun := k.sinceRun + dt, phase := phase,
                      xtalQuiet := if dt = 0 then k.xtalQuiet else some 0 }
  | .tref => { k with sinceRun := k.sinceRun + dt, trefGuard := k.trefGuard.map (· + dt) }

/-- The clock as a second edge of the current source finds it: the rest of the second has passed; on TREF the edge
is a counted pulse. Edge or pulse, it restarts the source's measure (R75, R82; entries 4, 5). -/
def Clock.atEdge (k : Clock) : Clock :=
  if k.current = .tref then { k with trefGuard := none }.restart .tref
  else (k.pass (Config.periodsPerSecond - k.phase)).restart k.current

/-- A second edge of the current source. -/
def secondEdge (s : State) : State := tickSecond { s with clock := s.clock.atEdge }

/-- SECOND_EDGE. -/
def execSecondEdge (s : State) : Host.Outcome State Fault Refusal := .next (secondEdge s)

/-- The interval between two pulses of a run lies in 1 s ± 1 % (R78). -/
def inWindow (p : Nat) : Bool :=
  decide (99 * Config.periodsPerSecond ≤ 100 * p) && decide (100 * p ≤ 101 * Config.periodsPerSecond)

/-- A pulse in a settling run toward TREF: it starts the run, advances it, or breaks it and starts a new one
(R78). -/
def Clock.advanceRun (k : Clock) : Clock :=
  let n := if k.runCount = 0 then 1 else if inWindow k.sinceRun then k.runCount + 1 else 1
  { k with runCount := n, sinceRun := 0, switch := if 3 ≤ n then .settled else k.switch }

/-- A pulse restarts the monitor's measure of a watched TREF, counted or not (R82). -/
def Clock.restartTref (k : Clock) : Clock :=
  if k.current = .tref ∨ k.seeks .tref then k.restart .tref else k

/-- The pulse is a second edge: TREF is the current source, and no pulse within 0.5 s of the switch edge is
counted (R75, R79). -/
def Clock.counts (k : Clock) : Bool :=
  k.current == .tref && (match k.trefGuard with
    | some p => decide (Config.periodsPerSecond ≤ 2 * p)
    | none => true)

/-- A TREF pulse (R75, R78, R79, R82). -/
def pulse (s : State) : State :=
  let s := { s with clock := s.clock.restartTref }
  let s := if s.clock.requested = some .tref ∧ s.clock.switch = .settling then
      { s with clock := s.clock.advanceRun } else s
  if s.clock.counts then tickSecond { s with clock := { s.clock with trefGuard := none } } else s

/-- TREF_PULSE: `dt` periods pass and the pulse arrives. -/
def execTrefPulse (dt : Nat) (s : State) : Host.Outcome State Fault Refusal :=
  .next (pulse { s with clock := s.clock.pass dt })

/-- XTAL_SETTLED. The crystal's 1024th period is an edge, which restarts its measure (R82). -/
def execXtalSettled (s : State) : Host.Outcome State Fault Refusal :=
  .next (settleCrystal (if s.clock.seeks .xtal then { s with clock := s.clock.restart .xtal } else s))

/-- SWITCH_TIMEOUT. -/
def execSwitchTimeout (s : State) : Host.Outcome State Fault Refusal := .next (timeoutSwitch s)

/-- CLOCK_MONITOR_FAIL. -/
def execClockMonitorFail (src : Source) (s : State) : Host.Outcome State Fault Refusal := .next (failSource src s)

/-- PLAN_LOCK_CHANGE: the pin takes its new level; LOCKED follows (R127). -/
def execPlanLockChange (level : Bool) (s : State) : Host.Outcome State Fault Refusal :=
  .next { s with pins := { s.pins with planLock := level } }

/-! ## Commands and writes of the clock -/

/-- The source a CLOCK_SWITCH argument names (R182). -/
def sourceOfArgument (a : BitVec 8) : Option Source :=
  match a.toNat with
  | 1 => some .irc
  | 2 => some .xtal
  | 3 => some .tref
  | _ => none

/-- The outcome of CLOCK_SWITCH (R77). -/
def switchOutcome (a : BitVec 8) (s : State) : CmdOutcome :=
  if s.locked then .locked
  else match sourceOfArgument a with
    | none => .badArgument
    | some _ => .done

/-- The effect of CLOCK_SWITCH answered DONE (R77). -/
def switchEffect (a : BitVec 8) (s : State) : State :=
  match sourceOfArgument a with
  | none => s
  | some src => if src = s.clock.current then endSwitched src s else requestSource src s

/-- A TIME write in LOADING (R86). -/
def setTime (t : Time) (s : State) : State :=
  recomputeBoundary (setQuality (qualityOn s.clock.current)
    { s with clock := { s.clock with time := t, phase := 0, adjust := 0 } })

/-- A pending adjustment is in range for L: its magnitude is not above L/2 (R90). -/
def adjustInRange (len : Nat) (a : Int) : Bool := decide (2 * a.natAbs ≤ len)

/-- A change of L in LOADING: the next boundary is recomputed and a pending adjustment out of range is
cancelled (R87, R90). -/
def intervalLengthChanged (s : State) : State :=
  recomputeBoundary { s with clock := { s.clock with
    adjust := if adjustInRange s.intervalSeconds s.clock.adjust then s.clock.adjust else 0 } }

/-- The first interval at an accepted START (R87). -/
def fixFirstInterval (s : State) : State :=
  let t := s.clock.time
  let len := s.intervalSeconds
  { s with clock := { s.clock with
      nextBoundary := nextGrid len t
      interval := { nominal := BitVec.ofNat 32 (t.toNat / len * len), actual := t, partialFlag := true,
                    degraded := s.clock.quality == .degraded } } }

/-! ## Periods of the oscillators on an idle step (entry 3) -/

/-- One period of the current source, IRC or XTAL: the phase count rises, and a second edge falls when it would
reach 32 768 (R75). -/
def sourcePeriod (s : State) : State :=
  if s.clock.phase + 1 < Config.periodsPerSecond then { s with clock := s.clock.pass 1 } else secondEdge s

/-- The 4 s measure of a switch that has not settled (R80). -/
def limitPeriod (s : State) : State :=
  if s.clock.switch = .settling then
    let s := { s with clock := { s.clock with limit := s.clock.limit + 1 } }
    if Config.switchLimit ≤ s.clock.limit then timeoutSwitch s else s
  else s

/-- A period of the monitor's measure of a source, with its limit: the measure rises, and at the limit a watched
source is declared failed (R82). -/
def monitorPeriod (src : Source) (limit : Nat) (s : State) : State :=
  match s.clock.quiet src with
  | none => s
  | some q =>
    if s.clock.watches src then
      if limit ≤ q + 1 then failSource src s else { s with clock := s.clock.setQuiet src (q + 1) }
    else s

/-- A period of the IRC: it may be the current source's, or belong to the half second after a switch to TREF; then
it advances the measure of the switch limit and the monitor's measures of TREF and XTAL, in this order
(R80, R82; entries 24, 32). -/
def ircPeriod (s : State) : State :=
  let s :=
    match s.clock.current with
    | .irc => sourcePeriod s
    | .tref => { s with clock := s.clock.pass 1 }
    | .xtal => s
  monitorPeriod .xtal Config.xtalLimit (monitorPeriod .tref Config.trefLimit (limitPeriod s))

/-- A period of the crystal, which runs while XTAL is current or requested: it restarts the crystal's measure,
counts toward settling, and may be the current source's (04, 4.1; R75, R78, R82). -/
def crystalPeriod (s : State) : State :=
  if s.clock.current = .xtal then sourcePeriod s
  else if s.clock.seeks .xtal then
    let s := { s with clock := s.clock.restart .xtal }
    if s.clock.switch = .settling then
      if s.clock.crystalPeriods + 1 < Config.crystalSettle then
        { s with clock := { s.clock with crystalPeriods := s.clock.crystalPeriods + 1 } }
      else settleCrystal s
    else s
  else s

end Sys2Proof.Machine
end

