-- ==== Sys2Proof/Machine/StatusBlock.lean ====
section
/-! DEFINITION. The status block's writes and the commands of the COMMAND word (09, R160, R165 to R178; R145,
R146). -/

namespace Sys2Proof.Machine

/-! ## Recording a command (R167) -/

/-- Record the last command with its outcome and detail, and answer its write ACCEPT. -/
def finishCommand (code : BitVec 8) (o : CmdOutcome) (detail : Nat) (s : State) : State :=
  acceptWrite { s with status := { s.status with
    command := { code := code, outcome := o, detail := BitVec.ofNat 12 detail } } }

/-! ## START (R169 to R171) -/

/-- The outcome of START and its detail. -/
def startOutcome (s : State) : CmdOutcome × Nat :=
  if s.running then (.wrongMode, 0)
  else if s.clock.quality = .unset then (.timeUnset, 0)
  else match startFailure s.plan with
    | some f => f
    | none => (.done, 0)

/-- An accepted START: the mode is RUNNING and the first interval is fixed. -/
def startEffect (s : State) : State :=
  fixFirstInterval { s with status := { s.status with mode := .running } }

/-- START. -/
def commandStart (s : State) : State :=
  let r := startOutcome s
  finishCommand 1 r.1 r.2 (if r.1 = .done then startEffect s else s)

/-! ## CLEAR_ARM and CLEAR (R172 to R175) -/

/-- CLEAR_ARM sets the clear-arm flag. -/
def commandClearArm (s : State) : State :=
  finishCommand 2 .done 0 { s with status := { s.status with armed := true } }

/-- The outcome of CLEAR; `armed` is the flag as the write found it (R173). -/
def clearOutcome (armed : Bool) (s : State) : CmdOutcome :=
  if armed = false then .wrongState
  else if s.closing then .busy
  else if s.locked then .locked
  else .done

/-- The clock at an accepted CLEAR: kept but for the sequence number, the next boundary for L = 900 s and an
adjustment above 450 s (R76, R87, R90). -/
def Clock.cleared (k : Clock) : Clock :=
  { k with seq := 0, nextBoundary := nextGrid 900 k.time,
           adjust := if adjustInRange 900 k.adjust then k.adjust else 0 }

/-- The write-out engine at an accepted CLEAR, its ACTIVE channel already cancelled: the queue emptied, both
channels IDLE (R144). -/
def WriteOut.cleared (o : WriteOut) : WriteOut :=
  { o with holding := [], chanI := { o.chanI with state := .idle }, chanP := { o.chanP with state := .idle } }

/-- An accepted CLEAR (R174, R175). -/
def clearEffect (s : State) : State :=
  let s := cancelActive s
  { s with
    status := { s.status with mode := .loading, armed := false }
    plan := Plan.initial
    live := Vector.replicate 512 MeterLive.initial
    capture := { s.capture with queue := [], tallies := ⟨0, 0, 0⟩ }
    changes := []
    rejection := { code := .none, entry := 0 }
    zoneWork := Vector.replicate 32 { carry := 0, pointer := 0 }
    accounts := Vector.replicate 256 ⟨Figures.initial, Figures.initial⟩
    snapshots := Vector.replicate 256 none
    period := { number := 0, pending := false, trailer := none }
    results := ChangeResults.initial
    occ := occInitial
    out := s.out.cleared
    clock := s.clock.cleared }

/-- CLEAR, with the clear-arm flag as the write found it. -/
def commandClear (armed : Bool) (s : State) : State :=
  finishCommand 3 (clearOutcome armed s) 0 (if clearOutcome armed s = .done then clearEffect s else s)

/-! ## The period commands (R145, R146) -/

/-- The outcome of PERIOD_CLOSE. -/
def periodCloseOutcome (s : State) : CmdOutcome :=
  if s.running = false then .wrongMode
  else if s.period.pending then .periodPending
  else if s.markHeld || s.period.trailer.isSome then .periodBusy
  else .done

/-- PERIOD_CLOSE. -/
def commandPeriodClose (s : State) : State :=
  finishCommand 4 (periodCloseOutcome s) 0
    (if periodCloseOutcome s = .done then { s with period := { s.period with pending := true } } else s)

/-- PERIOD_RESEND. -/
def commandPeriodResend (s : State) : State :=
  if hasWork s .p then finishCommand 5 .done 0 (handWork .p s) else finishCommand 5 .nothingHeld 0 s

/-- CLOCK_SWITCH. -/
def commandClockSwitch (a : BitVec 8) (s : State) : State :=
  finishCommand 6 (switchOutcome a s) 0 (if switchOutcome a s = .done then switchEffect a s else s)

/-- A code that names no command. -/
def commandBad (code : BitVec 8) (s : State) : State := finishCommand code .badArgument 0 s

/-- A COMMAND write, by its code; `armed` is the clear-arm flag as the write found it (R167, R182). -/
def commandWrite (code argument : BitVec 8) (armed : Bool) (s : State) : State :=
  match code.toNat with
  | 1 => commandStart s
  | 2 => commandClearArm s
  | 3 => commandClear armed s
  | 4 => commandPeriodClose s
  | 5 => commandPeriodResend s
  | 6 => commandClockSwitch argument s
  | _ => commandBad code s

/-! ## The other words -/

/-- A CAUSE write clears the causes written as ones (R176). -/
def writeCause (v : Word) (s : State) : State :=
  acceptWrite { s with status := { s.status with causes := s.status.causes &&& ~~~(v.setWidth 15) } }

/-- A MASK write replaces the call mask (R177). -/
def writeMask (v : Word) (s : State) : State :=
  acceptWrite { s with status := { s.status with mask := v.setWidth 15 } }

/-- A TIME write: taken in LOADING, refused in RUNNING (R86). -/
def writeTime (v : Word) (s : State) : State :=
  if s.running then respond .refuse s else acceptWrite (setTime v s)

/-- A TIME_ADJUST write (R90). -/
def writeTimeAdjust (v : Word) (s : State) : State :=
  if s.locked || !adjustInRange s.intervalSeconds v.toInt then respond .refuse s
  else acceptWrite { s with clock := { s.clock with adjust := v.toInt } }

/-- An EXPORT write (R132). -/
def writeExport (v : Word) (s : State) : State :=
  if v.toNat ≤ s.out.u then acceptWrite (exportRecords v.toNat s) else respond .refuse s

/-- A status-block write of the right form to word `i` of 0..15: it disarms CLEAR_ARM and is judged by its word
(R166). -/
def statusWrite (i : Nat) (v : Word) (s0 : State) : State :=
  let s := disarm s0
  match i with
  | 2 => writeCause v s
  | 3 => writeMask v s
  | 4 => commandWrite (v.extractLsb' 0 8) (v.extractLsb' 8 8) s0.status.armed s
  | 5 => unitCmdWrite (v.extractLsb' 0 8) (Fin.ofNat 256 (bits v 15 8)) s
  | 6 => writeTime v s
  | 7 => writeTimeAdjust v s
  | 11 => writeExport v s
  | _ => respond .refuse s

/-! ## The commands -/

/-- CAUSE_WRITE. -/
def execCauseWrite (v : Word) (s : State) : Host.Outcome State Fault Refusal :=
  .next (takeUpstream (statusWrite 2 v) s)

/-- MASK_WRITE. -/
def execMaskWrite (v : Word) (s : State) : Host.Outcome State Fault Refusal :=
  .next (takeUpstream (statusWrite 3 v) s)

/-- TIME_WRITE. -/
def execTimeWrite (v : Word) (s : State) : Host.Outcome State Fault Refusal :=
  .next (takeUpstream (statusWrite 6 v) s)

/-- TIME_ADJUST_WRITE. -/
def execTimeAdjustWrite (v : Word) (s : State) : Host.Outcome State Fault Refusal :=
  .next (takeUpstream (statusWrite 7 v) s)

/-- EXPORT_WRITE. -/
def execExportWrite (v : Word) (s : State) : Host.Outcome State Fault Refusal :=
  .next (takeUpstream (statusWrite 11 v) s)

/-- A COMMAND write of a code and argument. -/
def giveCommand (code argument : BitVec 8) (s : State) : State :=
  takeUpstream (fun s => commandWrite code argument s.status.armed (disarm s)) s

/-- START. -/
def execStart (s : State) : Host.Outcome State Fault Refusal := .next (giveCommand 1 0 s)
/-- CLEAR_ARM. -/
def execClearArm (s : State) : Host.Outcome State Fault Refusal := .next (giveCommand 2 0 s)
/-- CLEAR. -/
def execClear (s : State) : Host.Outcome State Fault Refusal := .next (giveCommand 3 0 s)
/-- PERIOD_CLOSE. -/
def execPeriodClose (s : State) : Host.Outcome State Fault Refusal := .next (giveCommand 4 0 s)
/-- PERIOD_RESEND. -/
def execPeriodResend (s : State) : Host.Outcome State Fault Refusal := .next (giveCommand 5 0 s)
/-- CLOCK_SWITCH. -/
def execClockSwitch (a : BitVec 8) (s : State) : Host.Outcome State Fault Refusal := .next (giveCommand 6 a s)
/-- COMMAND_BAD_CODE. -/
def execCommandBadCode (code a : BitVec 8) (s : State) : Host.Outcome State Fault Refusal :=
  .next (giveCommand code a s)

end Sys2Proof.Machine
end

