-- ==== Sys2Proof/Machine/Capture.lean ====
section
/-! DEFINITION. Reading capture: the drop write's capture and the reading processor's take (02, R22 to R44). -/

namespace Sys2Proof.Machine

/-! ## Capture (R24, R25) -/

/-- A drop write at drop-ring offset `off` from the anchor base, of the right form: captured and posted, or
answered RETRY (R24). -/
def captureWrite (t : WriteTxn) (off : Nat) (s : State) : State :=
  if Config.readingDepth ≤ s.capture.queue.length then respond .retry (raise .queueFull s)
  else if s.bufferRoom = false then respond .retry s
  else
    let r : QueuedReading :=
      { words := quadOf t.data, capture := s.clock.time, slot := BitVec.ofNat 6 ((off - 0x10000) / 16) }
    raiseIf (s.capture.queue.length == 31) .queueHalf
      (postWrite t { s with capture := { s.capture with queue := s.capture.queue ++ [r] } })

/-- A write into the drop ring: refused unless it is one 4-word burst with all byte enables set (R22). -/
def dropRingWrite (t : WriteTxn) (off : Nat) (s : State) : State :=
  if t.len = .w4 ∧ fullEnables t then captureWrite t off s else respond .refuse s

/-! ## Judging a record (R29 to R34) -/

/-- The elapsed time: capture time less the last capture time, 0 where it is below (R34). -/
def elapsedSince (l : MeterLive) (r : QueuedReading) : Nat := r.capture.toNat - l.lastCapture.toNat

/-- The delta in counts, forward or wrapped (R33). -/
def deltaCounts (e : MeterEntry) (l : MeterLive) (c : Word) : Nat :=
  if l.lastCounter ≤ c then c.toNat - l.lastCounter.toNat else c.toNat + 10 ^ e.digits - l.lastCounter.toNat

/-- D, the delta in Wh (R33). -/
def deltaWh (e : MeterEntry) (l : MeterLive) (c : Word) : Nat := deltaCounts e l c * e.scale.wh

/-- D lies above the plausibility limit: D × 3600 is greater than rated maximum × (elapsed + 60) (R34). -/
def aboveLimit (e : MeterEntry) (l : MeterLive) (r : QueuedReading) : Bool :=
  decide (e.ratedMax * (elapsedSince l r + 60) < deltaWh e l (readingCounter r.words) * 3600)

/-- The outcome of a record for a meter of the table, by the tests of R29 in their order. -/
def judgeMeter (mode : Mode) (e : MeterEntry) (l : MeterLive) (r : QueuedReading) : ReadingOutcome :=
  let c := readingCounter r.words
  if e.kind = .unused then .unknownMeter
  else if readingQuality r.words ≠ 0 ∧ readingQuality r.words ≠ 1 then .doubtful
  else if 10 ^ e.digits ≤ c.toNat then .outOfRange
  else if l.state = .unseen ∨ mode = .loading then .baseline
  else if c = l.lastCounter ∧ readingTag r.words = l.lastTag then .duplicate
  else if aboveLimit e l r then (if c < l.lastCounter then .backward else .implausible)
  else .taken

/-- UNKNOWN_METER, DOUBTFUL, OUT_OF_RANGE, BACKWARD and IMPLAUSIBLE (R29). -/
def ReadingOutcome.rejects : ReadingOutcome → Bool
  | .unknownMeter => true
  | .doubtful => true
  | .outOfRange => true
  | .backward => true
  | .implausible => true
  | _ => false

/-- BASELINE and TAKEN (R29). -/
def ReadingOutcome.applies : ReadingOutcome → Bool
  | .baseline => true
  | .taken => true
  | _ => false

/-! ## Applying a record -/

/-- The record fails the skew check: timestamp and capture time differ by more than 600 s (R39). -/
def failsSkew (r : QueuedReading) : Bool :=
  decide (600 < ((readingTag r.words).toNat : Int) - r.capture.toNat) ||
    decide (600 < (r.capture.toNat : Int) - (readingTag r.words).toNat)

/-- BASELINE (R31). -/
def applyBaseline (r : QueuedReading) (l : MeterLive) : MeterLive :=
  { l with state := .live, lastCounter := readingCounter r.words, lastCapture := r.capture,
           lastTag := readingTag r.words, rate := 0, debt := 0, missed := 0, attributed := 0, mark := true }

/-- The rate a TAKEN teaches, capped (R38); a reading that R34's minute lets pass above the rated maximum is taken
and its rate capped (entry 31). -/
def learnedRate (e : MeterEntry) (len : Nat) (l : MeterLive) (r : QueuedReading) : Nat :=
  let elapsed := elapsedSince l r
  if elapsed = 0 then l.rate
  else min (deltaWh e l (readingCounter r.words) * len / elapsed) (e.ratedMax * len / 3600)

/-- TAKEN (R36, R38): D, or D less the debt, goes to a part of the open accumulator and to the attributed
total. -/
def applyTaken (e : MeterEntry) (len : Nat) (r : QueuedReading) (l : MeterLive) : MeterLive :=
  let d : Int := deltaWh e l (readingCounter r.words)
  let amount : Int := d - l.debt
  let toActual : Int := if l.debt = 0 ∧ readingQuality r.words = 0 then d else 0
  let toEstimated : Int := if l.debt = 0 ∧ readingQuality r.words ≠ 0 then d else 0
  let toCorrection : Int := if l.debt = 0 then 0 else amount
  { l with
    actual := accAdd l.actual toActual
    estimated := accAdd l.estimated toEstimated
    correction := accAdd l.correction toCorrection
    attributed := accAdd l.attributed amount
    state := .live, missed := 0, debt := 0, rate := learnedRate e len l r
    lastCounter := readingCounter r.words, lastCapture := r.capture, lastTag := readingTag r.words
    suspect := false, mark := true }

/-- The meter's live fields after a record with outcome `o`: what the outcome changes, the skew check (R39),
the suspect flag of a BACKWARD or IMPLAUSIBLE (R35), the last outcome and drop slot (R41). `makesFresh` is the
fresh test of R40. -/
def liveAfter (o : ReadingOutcome) (e : MeterEntry) (len : Nat) (makesFresh : Bool) (r : QueuedReading)
    (l : MeterLive) : MeterLive :=
  let l1 := match o with
    | .baseline => applyBaseline r l
    | .taken => applyTaken e len r l
    | .backward => { l with suspect := true }
    | .implausible => { l with suspect := true }
    | _ => l
  let l2 := if o.applies then { l1 with skewed := failsSkew r, fresh := l1.fresh || makesFresh } else l1
  { l2 with lastOutcome := o, lastSlot := r.slot }

/-- The fresh test (R40): an applying record of a UNIT meter whose bound slot is OPENING or CLOSING. -/
def freshTest (o : ReadingOutcome) (e : MeterEntry) (s : State) : Bool :=
  o.applies && e.kind == .unit && s.occ[e.binding].state.waits

/-- The outstanding-readings count falls by 1 where the flag is set from clear (R40, R103). -/
def countFresh (e : MeterEntry) (s : State) : State :=
  setOcc e.binding { s.occ[e.binding] with outstanding := s.occ[e.binding].outstanding - 1 } s

/-- The counts a record moves: the interval tallies in RUNNING, and for a rejection the rejected-readings count
and READING_REJECTED (R35, R39, R41). -/
def tally (o : ReadingOutcome) (r : QueuedReading) (s : State) : State :=
  let t := s.capture.tallies
  let t' : Tallies :=
    { taken := if o.applies then satSucc t.taken else t.taken
      rejected := if o.rejects then satSucc t.rejected else t.rejected
      skewed := if o.applies && failsSkew r then satSucc t.skewed else t.skewed }
  raiseIf o.rejects .readingRejected { s with capture := { s.capture with
    rejects := if o.rejects then satSucc s.capture.rejects else s.capture.rejects
    tallies := if s.running then t' else t } }

/-- The take of one record (R27, R29): its outcome and every change it calls for. -/
def takeRecord (r : QueuedReading) (s : State) : State :=
  match finOf 512 (readingMeter r.words) with
  | none => tally .unknownMeter r s
  | some m =>
    let e := s.plan.meters[m]
    let l := s.live[m]
    let o := judgeMeter s.status.mode e l r
    let fresh := freshTest o e s
    let counted := if fresh && !l.fresh then countFresh e s else s
    tally o r (setLive m (liveAfter o e s.intervalSeconds fresh r l) counted)

/-- READING_TAKE: the head record leaves the queue and is judged, where the queue holds one and no close
suspends the processor (R27). -/
def execReadingTake (s : State) : Host.Outcome State Fault Refusal :=
  match s.capture.queue with
  | [] => .next s
  | r :: rest =>
    .next (if s.closing then s
      else takeRecord r { s with capture := { s.capture with queue := rest } })

end Sys2Proof.Machine
end

