-- ==== Sys2Proof/Machine/Windows.lean ====
section
/-! DEFINITION. What the claimed windows answer: the status words and the records of the account window, formed
from the state at the decision (R160, R161, R162, R182, R183). -/

namespace Sys2Proof.Machine

/-! ## Codes (R182, R183) -/

/-- Source codes of the STATE word. -/
def sourceCode : Source → Nat
  | .irc => 0
  | .xtal => 1
  | .tref => 2

/-- Requested-source codes. -/
def requestCode : Option Source → Nat
  | none => 0
  | some s => sourceCode s + 1

/-- Switch-state codes. -/
def SwitchState.code : SwitchState → Nat
  | .idle => 0
  | .settling => 1
  | .settled => 2

/-- Switch-outcome codes. -/
def SwitchOutcome.code : SwitchOutcome → Nat
  | .none => 0
  | .switched => 1
  | .switchFailed => 2

/-- Time-quality codes. -/
def Quality.code : Quality → Nat
  | .unset => 0
  | .good => 1
  | .degraded => 2

/-- Channel-state codes. -/
def ChannelState.code : ChannelState → Nat
  | .idle => 0
  | .pending => 1
  | .active => 2
  | .waitingExport => 3

/-- Channel-outcome codes. -/
def ChannelOutcome.code : ChannelOutcome → Nat
  | .complete => 0
  | .cancelled => 1
  | .terminatedMemory => 2

/-- The outcome codes shared by COMMAND, UNIT_CMD and REJECTS. -/
def CmdOutcome.code : CmdOutcome → Nat
  | .none => 0
  | .unitInUse => 1
  | .unitUndefined => 2
  | .mediumMismatch => 3
  | .keyDuplicate => 4
  | .zoneTooLarge => 5
  | .zoneEmpty => 6
  | .timeUnset => 7
  | .done => 8
  | .wrongMode => 9
  | .wrongState => 10
  | .undefinedUnit => 11
  | .busy => 12
  | .locked => 13
  | .periodPending => 14
  | .periodBusy => 15
  | .nothingHeld => 16
  | .badArgument => 17

/-- Occupancy codes. -/
def Occupancy.code : Occupancy → Nat
  | .vacant => 0
  | .opening => 1
  | .occupied => 2
  | .closing => 3
  | .closed => 4

/-- Meter-state codes. -/
def MeterState.code : MeterState → Nat
  | .unused => 0
  | .unseen => 1
  | .live => 2
  | .estimating => 3
  | .stale => 4

/-- Last-outcome codes. -/
def ReadingOutcome.code : ReadingOutcome → Nat
  | .none => 0
  | .baseline => 1
  | .taken => 2
  | .duplicate => 3
  | .unknownMeter => 4
  | .doubtful => 5
  | .outOfRange => 6
  | .backward => 7
  | .implausible => 8

/-! ## Status words (R182) -/

/-- The STATE word. -/
def stateWord (s : State) : Word :=
  packWord [(0, 1, flag s.running), (1, 1, flag s.closing), (2, 2, sourceCode s.clock.current),
    (4, 2, requestCode s.clock.requested), (6, 2, s.clock.switch.code), (8, 2, s.clock.lastSwitch.code),
    (10, 2, s.clock.quality.code), (12, 1, flag s.locked), (13, 1, flag s.pins.planLock)]

/-- The CHANNELS word. -/
def channelsWord (s : State) : Word :=
  packWord [(0, 2, s.out.chanI.state.code), (2, 2, s.out.chanI.outcome.code), (8, 2, s.out.chanP.state.code),
    (10, 2, s.out.chanP.outcome.code), (16, 3, s.out.holding.length)]

/-- The PERIOD word. -/
def periodWord (s : State) : Word :=
  packWord [(0, 16, s.period.number.toNat), (16, 1, flag s.period.pending),
    (17, 9, s.snapshots.toList.countP (·.isSome)), (26, 1, flag s.period.trailer.isSome)]

/-- Word `i` of the status block as a read returns it. -/
def statusWord (s : State) (i : Nat) : Word :=
  match i with
  | 0 => 0x41200001
  | 1 => stateWord s
  | 2 => s.status.causes.setWidth 32
  | 3 => s.status.mask.setWidth 32
  | 4 => packWord [(0, 8, s.status.command.code.toNat), (8, 8, s.status.command.outcome.code),
      (16, 12, s.status.command.detail.toNat)]
  | 5 => packWord [(0, 8, s.status.unitCommand.code.toNat), (8, 8, s.status.unitCommand.slot.val),
      (16, 8, s.status.unitCommand.outcome.code)]
  | 6 => s.clock.time
  | 7 => BitVec.ofInt 32 s.clock.adjust
  | 8 => packWord [(0, 7, s.capture.queue.length), (8, 6, s.changes.length)]
  | 9 => channelsWord s
  | 10 => packWord [(0, 11, s.out.w.toNat), (16, 12, s.out.u)]
  | 11 => s.out.x.setWidth 32
  | 12 => packWord [(0, 16, s.link.discarded.toNat), (16, 16, s.out.lost.toNat)]
  | 13 => packWord [(0, 16, s.capture.rejects.toNat), (16, 3, s.rejection.code.code),
      (20, 12, s.rejection.entry.toNat)]
  | 14 => periodWord s
  | 15 => packWord [(0, 23, s.clock.nextBoundary.toNat / 900), (23, 9, s.clock.seq.toNat)]
  | _ => 0

/-! ## Account-window records (R183) -/

/-- The 13 figure words of one medium. -/
def figureWords (f : Figures) : List Word :=
  words64 f.direct ++ words64 f.zone ++ words64 f.residual ++ words64 f.estimated ++ words64 f.cost ++
    words64 f.lastInterval ++ [BitVec.ofNat 32 f.remainder]

/-- The slot's FINAL-pending flag (R46). -/
def State.finalPending (s : State) (u : UnitId) : Bool :=
  match s.snapshots[u] with
  | some x => x.final
  | none => false

/-- Unit record `u`, 32 words. -/
def unitRecord (s : State) (u : UnitId) : List Word :=
  let r := s.occ[u]
  [packWord [(0, 3, r.state.code), (3, 1, flag r.openedOnEstimate), (4, 1, flag r.finalsForced),
      (5, 1, flag s.snapshots[u].isSome), (6, 1, flag (s.finalPending u)), (8, 4, r.deadline),
      (16, 10, r.outstanding)],
   packWord [(0, 16, r.tenancy.toNat), (16, 16, s.plan.units[u].area.toNat)],
   r.openedAt, r.closeCmdAt, packWord [(0, 8, s.plan.units[u].tariff.val)], 0]
  ++ figureWords s.accounts[u].heat ++ figureWords s.accounts[u].cool

/-- Meter record `m`, 8 words. -/
def meterRecord (s : State) (m : MeterId) : List Word :=
  let l := s.live[m]
  let e := s.plan.meters[m]
  [packWord [(0, 3, l.state.code), (3, 4, l.lastOutcome.code), (7, 1, flag l.mark), (8, 6, l.lastSlot.toNat),
      (14, 1, flag l.skewed), (15, 1, flag l.fresh), (16, 1, flag l.suspect), (17, 7, min l.missed.toNat 127),
      (24, 2, e.kind.code), (26, 1, mediumCode e.medium)],
   l.lastCounter, l.lastCapture, l.lastTag, packWord [(0, 22, l.rate)], BitVec.ofNat 32 l.debt,
   BitVec.ofInt 32 l.attributed, BitVec.ofNat 32 (clampField 32 (l.actual + l.estimated + l.correction))]

/-- Zone record `z`, 4 words. -/
def zoneRecord (s : State) (z : ZoneId) : List Word :=
  let ms := s.plan.members z
  [packWord [(0, 1, flag s.plan.zones[z].enable), (1, 1, mediumCode (s.plan.zoneMedium z)),
      (8, 24, min (weight ms) 16777215)],
   packWord [(0, 11, s.zoneWork[z].pointer.val), (16, 12, ms.length)]]
  ++ words64 s.zoneWork[z].carry

/-- Word `k` of the account window, counted from its start: unit records of 32 words, then meter records of 8,
then zone records of 4 (R161). -/
def accountWord (s : State) (k : Nat) : Word :=
  if k < 8192 then (unitRecord s (Fin.ofNat 256 (k / 32))).getD (k % 32) 0
  else if k < 12288 then (meterRecord s (Fin.ofNat 512 ((k - 8192) / 8))).getD (k % 8) 0
  else (zoneRecord s (Fin.ofNat 32 ((k - 12288) / 4))).getD (k % 4) 0

/-- The words a claimed read of `n` words from word `i` on returns. -/
def readWords (word : Nat → Word) (i n : Nat) : List Word := (List.range n).map fun j => word (i + j)

end Sys2Proof.Machine
end

