-- ==== Sys2Proof/Machine/Link.lean ====
section
/-! DEFINITION. The memory link: the decision on each upstream transaction by the range its address falls in, and
memory's answers at the downstream port (08; R1, R114, R131). -/

namespace Sys2Proof.Machine

/-! ## Plan writes (R114 to R117) -/

/-- The kinds of plan entry the plan lock covers: all but unit and meter entries (R114 test 2, R128). -/
def PlanEntry.lockCovered : PlanEntry → Bool
  | .unit _ _ => false
  | .meter _ _ => false
  | _ => true

/-- The entry is refused in RUNNING: the week map, or a header with another interval length code (R114
test 3). -/
def refusedInRunning (p : Plan) : PlanEntry → Bool
  | .weekMap _ => true
  | .header h => h.len != p.header.len
  | _ => false

/-- A plan write accepted in LOADING takes its effect on the tables, a meter entry on its live fields, and a
change of L on the clock (R115, R87, R90). -/
def applyInLoading (e : PlanEntry) (s : State) : State :=
  let t := applyEntry e s
  if t.plan.header.len = s.plan.header.len then t else intervalLengthChanged t

/-- A plan write at plan-area offset `off`, judged in the order of R114. -/
def planAreaWrite (t : WriteTxn) (off : Nat) (s : State) : State :=
  if t.len = .w4 ∧ fullEnables t then
    match decodeEntry (off / 16) (quadOf t.data) with
    | none => respond .refuse s
    | some e =>
      if s.locked && e.lockCovered then respond .refuse s
      else if s.running && refusedInRunning s.plan e then respond .refuse s
      else if s.bufferRoom = false then respond .retry s
      else if s.running then
        if Config.changeDepth ≤ s.changes.length then respond .retry s
        else postWrite t { s with changes :=
          s.changes ++ [{ entry := BitVec.ofNat 12 (off / 16), words := quadOf t.data }] }
      else postWrite t (applyInLoading e s)
  else respond .refuse s

/-! ## The other ranges -/

/-- A write into the status block: one word with all byte enables set is acted on; any other is refused and
still disarms CLEAR_ARM (R160, R166). -/
def statusBlockWrite (t : WriteTxn) (off : Nat) (s : State) : State :=
  if t.len = .w1 ∧ fullEnables t then statusWrite ((off - 0x10400) / 4) (t.data.getD 0 0) s
  else respond .refuse (disarm s)

/-- A write into the statement ring (R131). -/
def ringWrite (t : WriteTxn) (off : Nat) (s : State) : State :=
  if s.out.unexported (slotOfOffset off) then respond .refuse s
  else if s.out.beingWritten (slotOfOffset off) then respond .retry s
  else postWrite t s

/-- A read that its range passes on: RETRY where it overlaps an entry of the buffer, else forwarded (R155). -/
def forwardRead (t : ReadTxn) (s : State) : State :=
  if s.bufferCovers t.addr.toNat (4 * t.len.words) then respond .retry s
  else grant (requestRead { s with link := { s.link with forwarded := some t }, answer := none })

/-- A read of the statement ring (R131). -/
def ringRead (t : ReadTxn) (off : Nat) (s : State) : State :=
  if s.out.beingWritten (slotOfOffset off) then respond .retry s else forwardRead t s

/-! ## The decision (R148 to R150) -/

/-- The decision on a write. A misaligned one is refused, and into the status block it still disarms (R149); the
range of its start address says whether it is into the status block (entry 34). -/
def decideWrite (t : WriteTxn) (s : State) : State :=
  if t.aligned then
    match classify s.pins.anchor t.addr with
    | .passThrough => postWrite t s
    | .plan off => planAreaWrite t off s
    | .drop off => dropRingWrite t off s
    | .status off => statusBlockWrite t off s
    | .account _ => respond .refuse s
    | .ring off => ringWrite t off s
  else
    match classify s.pins.anchor t.addr with
    | .status _ => respond .refuse (disarm s)
    | _ => respond .refuse s

/-- The decision on a read. -/
def decideRead (t : ReadTxn) (s : State) : State :=
  if t.aligned then
    match classify s.pins.anchor t.addr with
    | .status off => respond (.accept (readWords (statusWord s) ((off - 0x10400) / 4) t.len.words)) s
    | .account off => respond (.accept (readWords (accountWord s) ((off - 0x11000) / 4) t.len.words)) s
    | .ring off => ringRead t off s
    | .passThrough => forwardRead t s
    | .plan _ => forwardRead t s
    | .drop _ => forwardRead t s
  else respond .refuse s

/-- The decision on a transaction of either direction. -/
def decideTxn (t : Txn) (s : State) : State :=
  match t with
  | .write w => decideWrite w s
  | .read r => decideRead r s

/-! ## The transaction commands

Each is taken to the decision, where its address and length say which range judges it (R150; entry 14). -/

/-- DROP_WRITE. -/
def execDropWrite (t : WriteTxn) (s : State) : Host.Outcome State Fault Refusal :=
  .next (takeUpstream (decideWrite t) s)
/-- PLAN_WRITE. -/
def execPlanWrite (t : WriteTxn) (s : State) : Host.Outcome State Fault Refusal :=
  .next (takeUpstream (decideWrite t) s)
/-- POSTED_WRITE. -/
def execPostedWrite (t : WriteTxn) (s : State) : Host.Outcome State Fault Refusal :=
  .next (takeUpstream (decideWrite t) s)
/-- FORWARDED_READ. -/
def execForwardedRead (t : ReadTxn) (s : State) : Host.Outcome State Fault Refusal :=
  .next (takeUpstream (decideRead t) s)
/-- STATEMENT_RING_ACCESS. -/
def execStatementRingAccess (t : Txn) (s : State) : Host.Outcome State Fault Refusal :=
  .next (takeUpstream (decideTxn t) s)
/-- MISALIGNED_TRANSACTION. -/
def execMisalignedTransaction (t : Txn) (s : State) : Host.Outcome State Fault Refusal :=
  .next (takeUpstream (decideTxn t) s)
/-- ACCOUNT_WINDOW_WRITE. -/
def execAccountWindowWrite (t : WriteTxn) (s : State) : Host.Outcome State Fault Refusal :=
  .next (takeUpstream (decideWrite t) s)
/-- STATUS_WRITE_REFUSED. -/
def execStatusWriteRefused (t : WriteTxn) (s : State) : Host.Outcome State Fault Refusal :=
  .next (takeUpstream (decideWrite t) s)

/-! ## Memory's answers (R152, R153, R156, R157, R164) -/

/-- DRAIN_WRITE_ACCEPTED. -/
def execDrainWriteAccepted (s : State) : Host.Outcome State Fault Refusal :=
  match s.link.port with
  | some (.drain _) => .next (endDrain s)
  | _ => .next s

/-- DRAIN_WRITE_DISCARDED. -/
def execDrainWriteDiscarded (s : State) : Host.Outcome State Fault Refusal :=
  match s.link.port with
  | some (.drain _) => .next (discardDrain s)
  | _ => .next s

/-- The answer relayed for a forwarded read (R156). -/
def relayed : MemAnswer → Response
  | .accept data => .accept data
  | .refuse => .refuse

/-- READ_ANSWER. -/
def execReadAnswer (a : MemAnswer) (s : State) : Host.Outcome State Fault Refusal :=
  match s.link.port with
  | some (.read _) => .next (endRead (relayed a) s)
  | _ => .next s

/-- The outstanding access times out: it ends as if memory had refused it (R157). -/
def timeoutAccess (s : State) : State :=
  match s.link.port with
  | some (.drain _) => discardDrain s
  | some (.read _) => endRead .refuse s
  | some (.firstBurst _) => grant (freePort (failRecord s))
  | some (.secondBurst _) => grant (freePort (failRecord s))
  | some (.disregarded _) => grant (freePort s)
  | none => s

/-- MEMORY_TIMEOUT: the declaration of R157, whatever the age of the access (entry 35). -/
def execMemoryTimeout (s : State) : Host.Outcome State Fault Refusal := .next (timeoutAccess s)

/-- DISREGARDED_MEMORY_ANSWER: the port becomes free and the arbiter grants (R164). An answer that comes after
its access's timeout finds no such access and acts on nothing (R157). -/
def execDisregardedMemoryAnswer (s : State) : Host.Outcome State Fault Refusal :=
  match s.link.port with
  | some (.disregarded _) => .next (grant (freePort s))
  | _ => .next s

/-- A link clock period of the outstanding access; at 1024 it has timed out (R157; entry 3). -/
def linkPeriod (s : State) : State :=
  match s.link.port with
  | none => s
  | some _ =>
    if s.link.age + 1 < Config.memoryLimit then { s with link := { s.link with age := s.link.age + 1 } }
    else timeoutAccess s

end Sys2Proof.Machine
end

