-- ==== Sys2Proof/Machine/Reset.lean ====
section
/-! DEFINITION. The power-on reset, BRST, and the idle step (R143, R163 to R165, R178; entries 3, 9). -/

namespace Sys2Proof.Machine

/-- POWER_ON_RESET: every block takes its initial value, with the power-on clock request made (R81, R165). The
pins keep their levels; the command queue and the count of idle steps are the model's own and stay. -/
def execPowerOnReset (s : State) : Host.Outcome State Fault Refusal :=
  .next { State.powerOn s.pins with idle := s.idle, pending := s.pending }

/-- A forwarded read in progress is dropped: no answer is given, a request that waits is withdrawn, and an
access already issued runs on with its answer disregarded (R163, R164). -/
def dropRead (s : State) : State :=
  match s.link.forwarded with
  | none => s
  | some _ =>
    { s with
      answer := none
      link := { s.link with
        forwarded := none
        reqRead := false
        port := match s.link.port with
          | some (.read r) => some (.disregarded (.read r))
          | p => p } }

/-- The ACTIVE channel, where there is one, is cancelled, and the engine, free now, chooses (R136, R143). -/
def cancelAndChoose (s : State) : State :=
  if s.out.active.isSome then choose (cancelActive s) else s

/-- The memory-bus reset: the read dropped, the ACTIVE channel cancelled and the engine choosing anew, the call
mask disabled, the clear-arm flag cleared (R143, R163, R164, R178). -/
def resetBus (s : State) : State :=
  let t := cancelAndChoose (dropRead s)
  { t with status := { t.status with mask := 0, armed := false } }

/-- The level of BRST. -/
def setBrst (level : Bool) (s : State) : State := { s with pins := { s.pins with brst := level } }

/-- BRST: the reset acts when the pin is asserted, and nothing but the pin moves when it is released (R163;
entry 9). -/
def execBrst (s : State) (level : Bool := true) : Host.Outcome State Fault Refusal :=
  .next (if level && !s.pins.brst then resetBus (setBrst level s) else setBrst level s)

/-- One period of an oscillator passes. -/
def oscillatorPeriod (o : Oscillator) (s : State) : State :=
  match o with
  | .irc => ircPeriod s
  | .xtal => crystalPeriod s
  | .link => linkPeriod s

/-- An idle step: one period of one oscillator passes, which one being a free value (entry 3). -/
def idleStep (s : State) : State := oscillatorPeriod (Config.period s.idle) { s with idle := s.idle + 1 }

end Sys2Proof.Machine
end

