-- ==== Sys2Proof/Machine/Dispatch.lean ====
section
/-! DEFINITION. The dispatch of the commands: one arm for each row of spec/opcode_table.json. -/

namespace Sys2Proof.Machine

def exec (i : Instr) (s : State) : Host.Outcome State Fault Refusal :=
  match i with
  | .powerOnReset => Sys2Proof.Machine.execPowerOnReset s
  | .brst level => Sys2Proof.Machine.execBrst s level
  | .planLockChange level => Sys2Proof.Machine.execPlanLockChange level s
  | .trefPulse dt => Sys2Proof.Machine.execTrefPulse dt s
  | .secondEdge => Sys2Proof.Machine.execSecondEdge s
  | .xtalSettled => Sys2Proof.Machine.execXtalSettled s
  | .switchTimeout => Sys2Proof.Machine.execSwitchTimeout s
  | .clockMonitorFail source => Sys2Proof.Machine.execClockMonitorFail source s
  | .stageDirect => Sys2Proof.Machine.execStageDirect s
  | .stageZones => Sys2Proof.Machine.execStageZones s
  | .stageResidual => Sys2Proof.Machine.execStageResidual s
  | .stagePrice => Sys2Proof.Machine.execStagePrice s
  | .stageOccupancy => Sys2Proof.Machine.execStageOccupancy s
  | .stagePeriod => Sys2Proof.Machine.execStagePeriod s
  | .stageSummary => Sys2Proof.Machine.execStageSummary s
  | .stageChanges => Sys2Proof.Machine.execStageChanges s
  | .stageEnd => Sys2Proof.Machine.execStageEnd s
  | .dropWrite t => Sys2Proof.Machine.execDropWrite t s
  | .planWrite t => Sys2Proof.Machine.execPlanWrite t s
  | .postedWrite t => Sys2Proof.Machine.execPostedWrite t s
  | .forwardedRead t => Sys2Proof.Machine.execForwardedRead t s
  | .statementRingAccess t => Sys2Proof.Machine.execStatementRingAccess t s
  | .misalignedTransaction t => Sys2Proof.Machine.execMisalignedTransaction t s
  | .accountWindowWrite t => Sys2Proof.Machine.execAccountWindowWrite t s
  | .statusWriteRefused t => Sys2Proof.Machine.execStatusWriteRefused t s
  | .causeWrite value => Sys2Proof.Machine.execCauseWrite value s
  | .maskWrite value => Sys2Proof.Machine.execMaskWrite value s
  | .timeWrite value => Sys2Proof.Machine.execTimeWrite value s
  | .timeAdjustWrite value => Sys2Proof.Machine.execTimeAdjustWrite value s
  | .exportWrite count => Sys2Proof.Machine.execExportWrite count s
  | .start => Sys2Proof.Machine.execStart s
  | .clearArm => Sys2Proof.Machine.execClearArm s
  | .clear => Sys2Proof.Machine.execClear s
  | .periodClose => Sys2Proof.Machine.execPeriodClose s
  | .periodResend => Sys2Proof.Machine.execPeriodResend s
  | .clockSwitch argument => Sys2Proof.Machine.execClockSwitch argument s
  | .commandBadCode code argument => Sys2Proof.Machine.execCommandBadCode code argument s
  | .openUnit slot => Sys2Proof.Machine.execOpen slot s
  | .closeUnit slot => Sys2Proof.Machine.execClose slot s
  | .forceUnit slot => Sys2Proof.Machine.execForce slot s
  | .cancelUnit slot => Sys2Proof.Machine.execCancel slot s
  | .unitCmdBadCode code slot => Sys2Proof.Machine.execUnitCmdBadCode code slot s
  | .readingTake => Sys2Proof.Machine.execReadingTake s
  | .drainWriteAccepted => Sys2Proof.Machine.execDrainWriteAccepted s
  | .drainWriteDiscarded => Sys2Proof.Machine.execDrainWriteDiscarded s
  | .readAnswer answer => Sys2Proof.Machine.execReadAnswer answer s
  | .memoryTimeout => Sys2Proof.Machine.execMemoryTimeout s
  | .recordStart => Sys2Proof.Machine.execRecordStart s
  | .firstBurstAccepted => Sys2Proof.Machine.execFirstBurstAccepted s
  | .recordComplete => Sys2Proof.Machine.execRecordComplete s
  | .recordAbandoned => Sys2Proof.Machine.execRecordAbandoned s
  | .disregardedMemoryAnswer => Sys2Proof.Machine.execDisregardedMemoryAnswer s

end Sys2Proof.Machine
end

