-- ==== Sys2Proof/Machine/Step.lean ====
section
/-! DEFINITION. One step of the device: the command at the front of the queue, or an idle step. -/

namespace Sys2Proof.Machine

/-- Take the command at the front of the queue and answer its outcome on the state with the queue's rest; on an
empty queue one oscillator period passes (entry 3). -/
def step (s : State) : Host.Outcome State Fault Refusal :=
  match s.pending with
  | [] => .next (idleStep s)
  | c :: rest => exec c { s with pending := rest }

/-- The state with the command that a word spells put at the front of its queue; unchanged where the word spells
none, and by the opcode table no word does. -/
def State.withFetchWord (s : State) (nbits w : Nat) : State :=
  match decodeTableWord nbits w with
  | none => s
  | some c => { s with pending := c :: s.pending }

end Sys2Proof.Machine
end

