-- ==== Sys2Proof/Safety.lean ====
section
/-! DEFINITION. What stays true of the device at every step: the invariants the manual states or takes for
granted, block by block; and the words in which the statements about the commands speak of the manual. -/

namespace Sys2Proof.Machine

/-- A figure that a signed 64-bit accumulator can hold. -/
def Fits64 (x : Int) : Prop := -9223372036854775808 ≤ x ∧ x < 9223372036854775808

/-! ## Capacities -/

/-- No queue holds more than its chapter allows: reading queue 64 (R24), change queue 32 (R116), posted-write
buffer 8 (R151), summary holding queue 4 (R134). -/
def CapacityInv (s : State) : Prop :=
  s.capture.queue.length ≤ 64 ∧ s.changes.length ≤ 32 ∧ s.link.posted.length ≤ 8 ∧ s.out.holding.length ≤ 4

/-! ## Write-out -/

/-- The item is of the channel's kind: summaries for channel I, statements and trailers for channel P (R133). -/
def Item.ofChannel : Item → Channel → Prop
  | .summary, c => c = .i
  | .statement _, c => c = .p
  | .trailer, c => c = .p

/-- The ring pointers, the channels and the engine (R130, R133, R136, R137): W = (X + U) mod 2048 with U at most
2048; at most one channel ACTIVE, and only while U < 2048; a channel WAITING_EXPORT only while U = 2048; a
channel PENDING only while the other is ACTIVE; a channel that is not IDLE has work; a record is being written
exactly while a channel is ACTIVE, and it is of that channel, the channel ACTIVE last. -/
structure WriteOutInv (s : State) : Prop where
  pointers : s.out.w = s.out.x + BitVec.ofNat 11 s.out.u
  bound : s.out.u ≤ 2048
  oneActive : ¬ (s.out.chanI.state = .active ∧ s.out.chanP.state = .active)
  activeRoom : ∀ c, (s.out.chan c).state = .active → s.out.u < 2048
  waitingFull : ∀ c, (s.out.chan c).state = .waitingExport → s.out.u = 2048
  pendingBehind : ∀ c, (s.out.chan c).state = .pending → (s.out.chan c.other).state = .active
  busyHasWork : ∀ c, (s.out.chan c).state ≠ .idle → hasWork s c = true
  recordOfActive : ∀ c, (s.out.chan c).state = .active → ∃ r, s.out.record = some r ∧ r.item.ofChannel c
  noRecordFree : s.out.active = none → s.out.record = none
  lastIsActive : ∀ c, (s.out.chan c).state = .active → s.out.lastActive = c

/-! ## Memory link -/

/-- The port and its requesters (R148, R152, R158): the order holds each requester once; no request waits while
the port is free; the drain's access is the head entry; entries that stand are being drained or the drain
waits; a read's access and request belong to the read in progress; a burst or its request belongs to a record
that has come to it. -/
structure LinkInv (s : State) : Prop where
  order : s.link.order.Perm [.drain, .read, .writeOut]
  granted : s.link.port = none → ∀ r, s.link.waits r = false
  drainsHead : ∀ w, s.link.port = some (.drain w) → s.link.posted.head? = some w ∧ s.link.reqDrain = false
  drainWaits : s.link.reqDrain = true → s.link.posted ≠ []
  draining : s.link.posted ≠ [] → s.link.draining = true ∨ s.link.reqDrain = true
  readsForwarded : ∀ r, s.link.port = some (.read r) → s.link.forwarded = some r ∧ s.link.reqRead = false
  readWaits : s.link.reqRead = true → s.link.forwarded ≠ none
  firstOfRecord : ∀ w, s.link.port = some (.firstBurst w) →
    s.link.reqWriteOut = false ∧ ∃ r, s.out.record = some r ∧ r.step = .first
  secondOfRecord : ∀ w, s.link.port = some (.secondBurst w) →
    s.link.reqWriteOut = false ∧ ∃ r, s.out.record = some r ∧ r.step = .second
  writeOutWaits : s.link.reqWriteOut = true → ∃ r, s.out.record = some r ∧ r.step ≠ .waiting

/-! ## Unit occupancy and the modes -/

/-- What LOADING takes for granted (R165): the change queue empty, no snapshot held, every slot VACANT or
OCCUPIED, the interval sequence number 0; and no close in progress, no period pending, no trailer. -/
def LoadingConditions (s : State) : Prop :=
  s.changes = [] ∧ (∀ u : UnitId, s.snapshots[u] = none) ∧
    (∀ u : UnitId, s.occ[u].state = .vacant ∨ s.occ[u].state = .occupied) ∧ s.clock.seq = 0 ∧ s.close = none ∧
    s.period.pending = false ∧ s.period.trailer = none

/-- The occupancy records (R94, R103, R165): slot 0 is OCCUPIED with tenancy, opened-at and close-command time
0; the outstanding-readings count of a waiting slot is the number of its bound meters whose fresh flag is
clear, and is 0 elsewhere; no deadline count passes 8; LOADING finds what it takes for granted. -/
structure OccupancyInv (s : State) : Prop where
  landlord : s.occ[(0 : UnitId)].state = .occupied ∧ s.occ[(0 : UnitId)].tenancy = 0 ∧
    s.occ[(0 : UnitId)].openedAt = 0 ∧ s.occ[(0 : UnitId)].closeCmdAt = 0
  outstanding : ∀ u : UnitId, s.occ[u].outstanding =
    if s.occ[u].state.waits then staleCount s.plan s.live u else 0
  deadline : ∀ u : UnitId, s.occ[u].deadline ≤ 8
  loading : s.status.mode = .loading → LoadingConditions s

/-! ## Accounts -/

/-- The close in progress has booked into the interval sums and not yet priced them (R45). -/
def summing (s : State) : Prop :=
  ∃ c, s.close = some c ∧ (c.next = .zones ∨ c.next = .residual ∨ c.next = .price)

/-- Every cost remainder is 0..999, and outside the booking stages of a close every interval sum is 0
(R45, R60). -/
def AccountsInv (s : State) : Prop :=
  (∀ (u : UnitId) (m : Medium), (s.accounts[u].get m).remainder ≤ 999) ∧
    (¬ summing s → ∀ (u : UnitId) (m : Medium), (s.accounts[u].get m).intervalSum = 0)

/-! ## Words of the statements -/

/-- The upstream port takes a transaction: no forwarded read is in progress and BRST is not asserted
(R148, R163). -/
def UpstreamFree (s : State) : Prop := (s.link.forwarded.isNone && !s.pins.brst) = true

/-- The state is as a CLEAR or a power-on reset leaves it: mode LOADING, the plan, the accounts and the occupancy
records at their initial values, no snapshot held (R165, R174). The initial medium field of zone entries 30 and 31
is the model's choice (entry 30). -/
def Cleared (s : State) : Prop :=
  s.status.mode = .loading ∧ s.plan = Plan.initial ∧ s.occ = occInitial ∧ (∀ u : UnitId, s.snapshots[u] = none) ∧
    ∀ (u : UnitId) (m : Medium), s.accounts[u].get m = Figures.initial

/-- `b` is the first multiple of `len` above `t`, or 0, the wrap, where 32 bits hold no such multiple (R87). -/
def NextGridPoint (len : Nat) (t b : Time) : Prop :=
  (t.toNat < b.toNat ∧ len ∣ b.toNat ∧ b.toNat ≤ t.toNat + len) ∨
    (b = 0 ∧ ∀ n, t.toNat < n → len ∣ n → 4294967296 ≤ n)

/-- The slot that an amount naming slot `b` goes to: `b` where the snapshot shows it OCCUPIED or CLOSING, else
slot 0 (R52). -/
def receiver (c : Close) (b : UnitId) : UnitId :=
  if c.occ[b] = .occupied ∨ c.occ[b] = .closing then b else 0

/-- The sum of a figure over the meters the snapshot shows of a kind and medium that meet a condition. -/
def sumOver (c : Close) (k : MeterKind) (m : Medium) (keep : SnapMeter → Bool) (f : SnapMeter → Int) : Int :=
  ((List.finRange 512).map fun i : MeterId =>
    if c.meters[i].kind = k ∧ c.meters[i].medium = m ∧ keep c.meters[i] = true then f c.meters[i] else 0).sum

/-- The sum of a figure over the meters the snapshot shows of a medium, of whatever kind. -/
def sumMedium (c : Close) (m : Medium) (f : SnapMeter → Int) : Int :=
  ((List.finRange 512).map fun i : MeterId => if c.meters[i].medium = m then f c.meters[i] else 0).sum

/-- The energy the ZONE meters of a zone registered in the closing interval (R54). -/
def zoneMetered (c : Close) (z : ZoneId) : Int :=
  ((List.finRange 512).map fun i : MeterId =>
    if c.meters[i].kind = .zone ∧ c.meters[i].binding.val = z.val then c.meters[i].energy else 0).sum

/-- A pool is shared: it is 0 or more, and the zone has members and weight (R54, R59). -/
def Shared (p : Int) (ms : List Member) : Prop := 0 ≤ p ∧ ms ≠ [] ∧ weight ms ≠ 0

/-- The part of a shared pool that the crediting test gives to a slot (R52, R56). -/
def sharesTo (c : Close) (u : UnitId) (shares : List (Member × Nat)) : Int :=
  (shares.map fun x => if receiver c x.1.unit = u then (x.2 : Int) else 0).sum

/-- A figure after an amount is added, where the accumulator can hold the sum. -/
def Added (before amount after : Int) : Prop := Fits64 (before + amount) → after = before + amount

/-- The meter has missed the closing interval (R49). -/
def Missed (l : MeterLive) : Prop :=
  (l.state = .live ∨ l.state = .estimating ∨ l.state = .stale) ∧ l.mark = false

/-- The address lies at an offset from the anchor base, n × 2 MiB (00, "The anchor region"). -/
def At (s : State) (a : Addr) (off : Nat) : Prop := a.toNat = s.pins.anchor.toNat * 2097152 + off

/-- Plain pass-through memory: below the anchor base, between the ranges, or beyond them (R150). -/
def PassThrough (s : State) (a : Addr) : Prop :=
  a.toNat < s.pins.anchor.toNat * 2097152 ∨
    ∃ off, At s a off ∧ ((0x10440 ≤ off ∧ off < 0x11000) ∨ (0x1D200 ≤ off ∧ off < 0x20000) ∨ 0x40000 ≤ off)

/-- A read covers a word that a posted write covers (R155). -/
def Overlaps (w : WriteTxn) (r : ReadTxn) : Prop :=
  ∃ x : Nat, w.addr.toNat ≤ x ∧ x < w.addr.toNat + 4 * w.len.words ∧
    r.addr.toNat ≤ x ∧ x < r.addr.toNat + 4 * r.len.words

/-- A slot of the ring is one of the U unexported slots X, X+1, …, X+U−1, mod 2048 (R130). -/
def Unexported (o : WriteOut) (slot : BitVec 11) : Prop := ∃ k, k < o.u ∧ slot = o.x + BitVec.ofNat 11 k

/-- The link moves at its port alone: the access outstanding with its age, the requests, the arbiter's order. The
buffer, the forwarded read and the discarded-write count stand (R157, R158). -/
def PortMoves (l l' : Link) : Prop :=
  l' = { l with
    port := l'.port, age := l'.age, reqDrain := l'.reqDrain, reqRead := l'.reqRead
    reqWriteOut := l'.reqWriteOut, order := l'.order }

/-- `t` is the state after the arbiter has acted on the link `l`: nothing has moved, or the port, which was free,
carries the access of a requester that waited and waits no longer (R157, R158). Which requester the arbiter grants
is a statement of its own, `GrantFollowsTheOrder`. -/
def Arbitrated (t : State) (l : Link) : Prop :=
  t = grant { t with link := l } ∧ PortMoves l t.link ∧
    (t.link = l ∨ ∃ r, l.port = none ∧ l.waits r = true ∧ t.link.port = accessFor { t with link := l } r ∧
      t.link.age = 0 ∧ t.link.waits r = false)

/-- `r` is the state after a write has been appended to the buffer of the link `l`: the drain requests the port
where it has no access outstanding, and the arbiter has acted (R151, R152, R158). -/
def PostedTo (t : WriteTxn) (l : Link) (r : State) : Prop :=
  Arbitrated r { l with posted := l.posted ++ [t], reqDrain := l.reqDrain || !l.draining }

/-- The snapshots `snaps` after the record being written in `s` is abandoned: each one stands, and the one whose
statement the record was keeps the record's words for its rewrite (R142, R184). -/
def ItemKept (s : State) (snaps : Vector (Option Statement) 256) : Prop :=
  ∀ v : UnitId,
    (∀ r, s.out.record = some r → r.item = .statement v →
      snaps[v] = s.snapshots[v].map fun x => { x with formed := some r.words }) ∧
    ((∀ r, s.out.record = some r → r.item ≠ .statement v) → snaps[v] = s.snapshots[v])

/-- D, the delta in Wh of a record for a meter, forward or wrapped (R33). -/
def deltaOf (e : MeterEntry) (l : MeterLive) (r : QueuedReading) : Nat :=
  (if l.lastCounter.toNat ≤ (readingCounter r.words).toNat
    then (readingCounter r.words).toNat - l.lastCounter.toNat
    else (readingCounter r.words).toNat + 10 ^ e.digits - l.lastCounter.toNat) * e.scale.wh

/-- The elapsed time of a record: its capture time less the meter's last, 0 where it is below (R34). -/
def elapsedOf (l : MeterLive) (r : QueuedReading) : Nat := r.capture.toNat - l.lastCapture.toNat

/-- The outcome of a record for meter `m`: the first test of R29 that it meets, or TAKEN. -/
def outcomeOf (s : State) (r : QueuedReading) (m : MeterId) : ReadingOutcome :=
  let e := s.plan.meters[m]
  let l := s.live[m]
  let above := decide (e.ratedMax * (elapsedOf l r + 60) < deltaOf e l r * 3600)
  if e.kind = .unused then .unknownMeter
  else if readingQuality r.words ≠ 0 ∧ readingQuality r.words ≠ 1 then .doubtful
  else if 10 ^ e.digits ≤ (readingCounter r.words).toNat then .outOfRange
  else if l.state = .unseen ∨ s.status.mode = .loading then .baseline
  else if readingCounter r.words = l.lastCounter ∧ readingTag r.words = l.lastTag then .duplicate
  else if (readingCounter r.words).toNat < l.lastCounter.toNat ∧ above then .backward
  else if l.lastCounter.toNat ≤ (readingCounter r.words).toNat ∧ above then .implausible
  else .taken

/-- The record fails the skew check: timestamp and capture time differ by more than 600 s (R39). -/
def skewOf (r : QueuedReading) : Bool :=
  decide (600 < (((readingTag r.words).toNat : Int) - (r.capture.toNat : Int)).natAbs)

/-- An applying record of the meter makes it fresh: kind UNIT, its slot OPENING or CLOSING (R40). -/
def makesFresh (s : State) (m : MeterId) : Bool :=
  s.plan.meters[m].kind == .unit &&
    (s.occ[s.plan.meters[m].binding].state == .opening || s.occ[s.plan.meters[m].binding].state == .closing)

/-- The six conditions of R119 over a whole plan, as START checks them (R170). -/
structure PlanConsistent (p : Plan) : Prop where
  unitMeters : ∀ m : MeterId, p.meters[m].kind = .unit →
    p.meters[m].binding = 0 ∨ p.units[p.meters[m].binding].area ≠ 0
  zoneMeters : ∀ (m : MeterId) (z : ZoneId), p.meters[m].kind = .zone → p.meters[m].binding.val = z.val →
    p.meters[m].medium = p.zoneMedium z
  zoneSize : ∀ z : ZoneId, (p.members z).length ≤ 255
  zoneWeight : ∀ z : ZoneId, p.zones[z].enable = true → weight (p.members z) ≠ 0
  zoneMetered : ∀ z : ZoneId, p.zones[z].enable = true → z.val < 30 →
    ∃ m : MeterId, p.meters[m].kind = .zone ∧ p.meters[m].binding.val = z.val
  keyUnits : ∀ (k : KeyId) (z : ZoneId), p.keys[k].zone = some z →
    p.keys[k].unit = 0 ∨ p.units[p.keys[k].unit].area ≠ 0
  keyZones : ∀ (k : KeyId) (z : ZoneId), p.keys[k].zone = some z → p.zones[z].enable = true
  keysDiffer : ∀ (j k : KeyId) (z : ZoneId), j ≠ k → p.keys[j].zone = some z → p.keys[k].zone = some z →
    p.keys[j].unit ≠ p.keys[k].unit

/-- The plan in force in RUNNING meets the conditions of R119 at every moment. -/
def PlanInv (s : State) : Prop := s.status.mode = .running → PlanConsistent s.plan

/-! ## The consistency tests, entry by entry (R120, R170) -/

/-- `o` is the code of the first test whose condition holds, or none where none holds. -/
def FirstOf : List (CmdOutcome × Prop) → Option CmdOutcome → Prop
  | [], o => o = none
  | (code, holds) :: rest, o => (holds ∧ o = some code) ∨ (¬ holds ∧ FirstOf rest o)

/-- A slot 1..255 with floor area 0. -/
def Undefined (p : Plan) (u : UnitId) : Prop := u ≠ 0 ∧ p.units[u].area = 0

/-- A meter of kind ZONE is bound to the zone. -/
def Metered (p : Plan) (z : ZoneId) : Prop :=
  ∃ m : MeterId, p.meters[m].kind = .zone ∧ p.meters[m].binding.val = z.val

/-- The tests of a unit entry at stage 9, in order (R120). -/
def unitTests (s : State) (i : UnitId) (e : UnitEntry) : List (CmdOutcome × Prop) :=
  [(.unitInUse, i ≠ 0 ∧ e.area = 0 ∧ s.plan.units[i].area ≠ 0 ∧ s.occ[i].state ≠ .vacant),
   (.unitUndefined, i ≠ 0 ∧ e.area = 0 ∧ s.plan.units[i].area ≠ 0 ∧
      ((∃ m : MeterId, s.plan.meters[m].kind = .unit ∧ s.plan.meters[m].binding = i) ∨
        ∃ (k : KeyId) (z : ZoneId), s.plan.keys[k].zone = some z ∧ s.plan.keys[k].unit = i)),
   (.zoneEmpty, s.plan.units[i].area ≠ e.area ∧ ∃ z : ZoneId, s.plan.zones[z].enable = true ∧
      (∃ k : KeyId, s.plan.keys[k].zone = some z ∧ s.plan.keys[k].unit = i ∧ s.plan.keys[k].factor = 0) ∧
      weight ({ s.plan with units := s.plan.units.set i e }.members z) = 0)]

/-- The tests of a meter entry at stage 9, in order (R120). -/
def meterTests (s : State) (i : MeterId) (e : MeterEntry) : List (CmdOutcome × Prop) :=
  [(.unitUndefined, e.kind = .unit ∧ Undefined s.plan e.binding),
   (.mediumMismatch, e.kind = .zone ∧ ∃ z : ZoneId, z.val = e.binding.val ∧ e.medium ≠ s.plan.zoneMedium z),
   (.zoneEmpty, s.plan.meters[i].kind = .zone ∧ ∃ z : ZoneId, z.val = s.plan.meters[i].binding.val ∧ z.val < 30 ∧
      s.plan.zones[z].enable = true ∧ ¬ Metered { s.plan with meters := s.plan.meters.set i e } z)]

/-- The tests of a zone entry at stage 9, in order (R120). -/
def zoneTests (s : State) (z : ZoneId) (e : ZoneEntry) : List (CmdOutcome × Prop) :=
  [(.mediumMismatch, (e.enable = false ∧ ∃ k : KeyId, s.plan.keys[k].zone = some z) ∨
      (z.val < 30 ∧ ∃ m : MeterId, s.plan.meters[m].kind = .zone ∧ s.plan.meters[m].binding.val = z.val ∧
        s.plan.meters[m].medium ≠ e.medium)),
   (.zoneEmpty, e.enable = true ∧ (weight (s.plan.members z) = 0 ∨ (z.val < 30 ∧ ¬ Metered s.plan z)))]

/-- The tests of a key entry at stage 9, in order (R120). -/
def keyTests (s : State) (k : KeyId) (e : KeyEntry) : List (CmdOutcome × Prop) :=
  let q := { s.plan with keys := s.plan.keys.set k e }
  let weightless (z : ZoneId) := weight (q.members z) = 0
  let leaves := ∃ z : ZoneId, s.plan.keys[k].zone = some z ∧ e.zone ≠ some z ∧ s.plan.zones[z].enable = true ∧
    weightless z
  [(.unitUndefined, e.zone ≠ none ∧ Undefined s.plan e.unit),
   (.mediumMismatch, ∃ z : ZoneId, e.zone = some z ∧ s.plan.zones[z].enable = false),
   (.keyDuplicate, ∃ (z : ZoneId) (j : KeyId), e.zone = some z ∧ j ≠ k ∧ s.plan.keys[j].zone = some z ∧
      s.plan.keys[j].unit = e.unit),
   (.zoneTooLarge, ∃ z : ZoneId, e.zone = some z ∧ 255 < (q.members z).length),
   (.zoneEmpty, leaves ∨ ∃ z : ZoneId, e.zone = some z ∧ weightless z)]

/-- START's tests of a meter, in order (R170). -/
def startMeterTests (p : Plan) (m : MeterId) : List (CmdOutcome × Prop) :=
  [(.unitUndefined, p.meters[m].kind = .unit ∧ Undefined p p.meters[m].binding),
   (.mediumMismatch, p.meters[m].kind = .zone ∧
      ∃ z : ZoneId, z.val = p.meters[m].binding.val ∧ p.meters[m].medium ≠ p.zoneMedium z)]

/-- START's tests of a zone, in order (R170). -/
def startZoneTests (p : Plan) (z : ZoneId) : List (CmdOutcome × Prop) :=
  [(.zoneTooLarge, 255 < (p.members z).length),
   (.zoneEmpty, p.zones[z].enable = true ∧ (weight (p.members z) = 0 ∨ (z.val < 30 ∧ ¬ Metered p z)))]

/-- START's tests of a key, in order (R170). -/
def startKeyTests (p : Plan) (k : KeyId) : List (CmdOutcome × Prop) :=
  [(.unitUndefined, p.keys[k].zone ≠ none ∧ Undefined p p.keys[k].unit),
   (.mediumMismatch, ∃ z : ZoneId, p.keys[k].zone = some z ∧ p.zones[z].enable = false),
   (.keyDuplicate, ∃ (z : ZoneId) (j : KeyId), p.keys[k].zone = some z ∧ j ≠ k ∧ p.keys[j].zone = some z ∧
      p.keys[j].unit = p.keys[k].unit)]

/-- The plan entry with number `n` fails at START, with the code of the first test it fails (R170). -/
def StartFails (p : Plan) (n : Nat) (code : CmdOutcome) : Prop :=
  (∃ m : MeterId, n = 512 + m.val ∧ FirstOf (startMeterTests p m) (some code)) ∨
    (∃ z : ZoneId, n = 1024 + z.val ∧ FirstOf (startZoneTests p z) (some code)) ∨
    ∃ k : KeyId, n = 2048 + k.val ∧ FirstOf (startKeyTests p k) (some code)

/-! ## Commands from the controller -/

/-- The commands that are upstream transactions of the controller (R148). -/
def Upstream : Instr → Bool
  | .dropWrite _ => true
  | .planWrite _ => true
  | .postedWrite _ => true
  | .forwardedRead _ => true
  | .statementRingAccess _ => true
  | .misalignedTransaction _ => true
  | .accountWindowWrite _ => true
  | .statusWriteRefused _ => true
  | .causeWrite _ => true
  | .maskWrite _ => true
  | .timeWrite _ => true
  | .timeAdjustWrite _ => true
  | .exportWrite _ => true
  | .start => true
  | .clearArm => true
  | .clear => true
  | .periodClose => true
  | .periodResend => true
  | .clockSwitch _ => true
  | .commandBadCode _ _ => true
  | .openUnit _ => true
  | .closeUnit _ => true
  | .forceUnit _ => true
  | .cancelUnit _ => true
  | .unitCmdBadCode _ _ => true
  | _ => false

/-! ## Layouts (10, opening) -/

/-- The word whose fields, given by lowest bit, width and value, hold their values, and whose other bits are 0. -/
def wordOf (fields : List (Nat × Nat × Nat)) : Word :=
  BitVec.ofNat 32 ((fields.map fun f => f.2.2 % 2 ^ f.2.1 * 2 ^ f.1).sum)

/-- A signed 64-bit figure: its low word, then its high word. -/
def lowHigh (x : Int) : List Word := [BitVec.ofInt 32 x, BitVec.ofInt 32 (x / 4294967296)]

/-- A figure as a signed 32-bit word, shown at the nearer limit where it lies beyond. -/
def nearest32 (x : Int) : Word := BitVec.ofInt 32 (max (-2147483648) (min 2147483647 x))

/-- Two figures in kWh, rounded down, as signed 16-bit fields, each shown at the nearer limit where it lies beyond
(R184). -/
def pair16 (a b : Int) : Word :=
  let half (x : Int) : Nat := ((max (-32768) (min 32767 (x / 1000))) % 65536).toNat
  wordOf [(0, 16, half a), (16, 16, half b)]

/-- The code of a value: its place in the manual's list. -/
def codeIn {α : Type} [BEq α] (list : List α) (x : α) : Nat := list.idxOf x

/-- The outcomes of commands and plan checks in the order of their codes (R182). -/
def outcomeCodes : List CmdOutcome :=
  [.none, .unitInUse, .unitUndefined, .mediumMismatch, .keyDuplicate, .zoneTooLarge, .zoneEmpty, .timeUnset, .done,
   .wrongMode, .wrongState, .undefinedUnit, .busy, .locked, .periodPending, .periodBusy, .nothingHeld, .badArgument]

/-- The channel states in the order of their codes (R182). -/
def channelStates : List ChannelState := [.idle, .pending, .active, .waitingExport]

/-- The channel outcomes in the order of their codes (R182). -/
def channelOutcomes : List ChannelOutcome := [.complete, .cancelled, .terminatedMemory]

/-- The 13 figure words of one slot and medium in the account window (R183). -/
def shownFigures (f : Figures) : List Word :=
  lowHigh f.direct ++ lowHigh f.zone ++ lowHigh f.residual ++ lowHigh f.estimated ++ lowHigh f.cost ++
    lowHigh f.lastInterval ++ [BitVec.ofNat 32 f.remainder]

end Sys2Proof.Machine
end

