-- ==== Sys2Proof/Certificates/Slice0/Obligations.lean ====
section
/-! DEFINITION. The statements about the model that are to be proved. Each is named in OBLIGATIONS.json. A
statement `t = { s with … }` is the frame: whatever it does not name is as it was. -/

open Sys2Proof Sys2Proof.Machine

/-! ## The machine -/

/-- A step takes the command at the front of the queue and runs it on the queue's rest. -/
def Obligations.StepRunsTheCommandAtTheFront : Prop :=
  ∀ (c : Instr) (rest : List Instr) (s : State),
    step { s with pending := c :: rest } = exec c { s with pending := rest }

/-- No step stops the machine, and a step takes one command from the queue where it holds one. -/
def Obligations.StepAnswersNextAndTakesOneCommand : Prop :=
  ∀ s : State, ∃ t, step s = .next t ∧ t.pending = s.pending.tail

/-- POWER_ON_RESET: every block takes its initial value, and the clock requests the strapped source. -/
def Obligations.PowerOnResetGivesInitialValues : Prop :=
  ∀ s : State, ∃ t, exec .powerOnReset s = .next t ∧
    t.pins = s.pins ∧ t.pending = s.pending ∧
    t.link = { posted := [], forwarded := none, port := none, age := t.link.age, reqDrain := false,
               reqRead := false, reqWriteOut := false, order := [.drain, .read, .writeOut], discarded := 0 } ∧
    t.capture = { queue := [], rejects := 0, tallies := { taken := 0, rejected := 0, skewed := 0 } } ∧
    t.plan.header = { len := .s900, lockEnable := false } ∧
    (∀ u : UnitId, t.plan.units[u] = { area := 0, tariff := 0 }) ∧
    (∀ m : MeterId, t.plan.meters[m] =
      { kind := .unused, medium := .heat, binding := 0, scale := .x1, digits := 5, ratedMax := 1 }) ∧
    (∀ z : ZoneId, t.plan.zones[z].enable = false ∧ (z.val < 30 → t.plan.zones[z].medium = .heat)) ∧
    (∀ k : KeyId, t.plan.keys[k] = { zone := none, unit := 0, factor := 0 }) ∧
    (∀ i : Fin 32, t.plan.prices[i] = { heat := 0, cool := 0 }) ∧
    (∀ (i : Fin 12) (b : Fin 16), (t.plan.dayProfiles[i])[b] = 0) ∧
    (∀ d : Fin 7, t.plan.weekMap[d] = 0) ∧
    (∀ h : Fin 16, t.plan.holidays[h] = { day := 0, profile := 0 }) ∧
    t.changes = [] ∧ t.rejection = { code := .none, entry := 0 } ∧
    (∀ m : MeterId, t.live[m] =
      { state := .unused, lastCounter := 0, lastCapture := 0, rate := 0, debt := 0, missed := 0, actual := 0,
        estimated := 0, correction := 0, mark := false, attributed := 0, lastOutcome := .none, lastSlot := 0,
        lastTag := 0, skewed := false, fresh := false, suspect := false }) ∧
    (∀ z : ZoneId, t.zoneWork[z] = { carry := 0, pointer := 0 }) ∧
    (∀ (u : UnitId) (m : Medium), t.accounts[u].get m =
      { direct := 0, zone := 0, residual := 0, estimated := 0, cost := 0, remainder := 0, lastInterval := 0,
        intervalSum := 0 }) ∧
    (∀ u : UnitId, t.snapshots[u] = none) ∧
    t.period = { number := 0, pending := false, trailer := none } ∧
    t.results = { applied := false, rejected := 0, writtenOff := { heat := 0, cool := 0 } } ∧
    t.close = none ∧
    (∀ u : UnitId, t.occ[u] =
      { state := if u = 0 then .occupied else .vacant, tenancy := 0, openedAt := 0, closeCmdAt := 0,
        outstanding := 0, deadline := 0, openedOnEstimate := false, finalsForced := false,
        cmdSinceBoundary := false }) ∧
    t.out = { w := 0, x := 0, u := 0, seq := 0, lost := 0, holding := [],
              chanI := { state := .idle, outcome := .complete }, chanP := { state := .idle, outcome := .complete },
              lastActive := .p, record := none } ∧
    t.status.mode = .loading ∧ t.status.mask = 0 ∧ t.call = false ∧ t.status.armed = false ∧
    t.status.command = { code := 0, outcome := .none, detail := 0 } ∧
    t.status.unitCommand = { code := 0, slot := 0, outcome := .none } ∧
    t.clock.time = 0 ∧ t.clock.phase = 0 ∧ t.clock.current = .irc ∧ t.clock.quality = .unset ∧
    t.clock.crystalPeriods = 0 ∧ t.clock.runCount = 0 ∧ t.clock.adjust = 0 ∧ t.clock.nextBoundary = 900 ∧
    t.clock.seq = 0 ∧ t.clock.interval = { nominal := 0, actual := 0, partialFlag := false, degraded := false } ∧
    (s.pins.clksel = 0 → t.clock.requested = none ∧ t.clock.switch = .idle ∧ t.clock.lastSwitch = .switched ∧
      ∀ c, t.causeSet c = decide (c = .clockEvent)) ∧
    (s.pins.clksel = 2 → t.clock.requested = some .tref) ∧
    (s.pins.clksel = 1 ∨ s.pins.clksel = 3 → t.clock.requested = some .xtal) ∧
    (s.pins.clksel ≠ 0 → t.clock.switch = .settling ∧ t.clock.lastSwitch = .none ∧ ∀ c, t.causeSet c = false)

/-- Every invariant holds right after power-on reset. -/
def Obligations.InvariantsHoldAtReset : Prop :=
  CapacityInv State.reset ∧ WriteOutInv State.reset ∧ LinkInv State.reset ∧ OccupancyInv State.reset ∧
    AccountsInv State.reset ∧ PlanInv State.reset

/-- No step lets a queue or buffer pass its capacity. -/
def Obligations.StepKeepsCapacities : Prop :=
  ∀ s t : State, CapacityInv s → step s = .next t → CapacityInv t

/-- Every step keeps the ring pointers, the channels, the port and its requesters in order. -/
def Obligations.StepKeepsWriteOutAndLink : Prop :=
  ∀ s t : State, WriteOutInv s → LinkInv s → step s = .next t → WriteOutInv t ∧ LinkInv t

/-- Every step keeps the occupancy records in order: slot 0, the outstanding-readings counts, the deadline
counts, and what LOADING takes for granted. -/
def Obligations.StepKeepsOccupancy : Prop :=
  ∀ s t : State, OccupancyInv s → step s = .next t → OccupancyInv t

/-- Every step keeps every cost remainder in 0..999, and every interval sum 0 outside the booking stages. -/
def Obligations.StepKeepsAccounts : Prop :=
  ∀ s t : State, AccountsInv s → step s = .next t → AccountsInv t

/-- In RUNNING the plan in force meets the six conditions of R119 at every moment: START lets no other plan in, and
no entry that stage 9 applies breaks one. -/
def Obligations.StepKeepsThePlanConsistent : Prop :=
  ∀ s t : State, PlanInv s → step s = .next t → PlanInv t

/-- In LOADING no interval closes and no unit account changes: but for CLEAR and the power-on reset, which
return the accounts to 0 and the plan to its initial values (zone entries 30 and 31: log entry 30), every step leaves
every account as it was, and no close begins. -/
def Obligations.LoadingChangesNoAccount : Prop :=
  ∀ s t : State, s.status.mode = .loading → s.close = none → step s = .next t →
    t.close = none ∧ (t.accounts = s.accounts ∨ Cleared t)

/-- A unit leaves CLOSED only for VACANT, and only when its FINAL statement has been written, or by CLEAR or
power-on reset, which return the plan to its initial values (zone entries 30 and 31: log entry 30). -/
def Obligations.ClosedUnitsLeaveOnlyByTheirFinalStatement : Prop :=
  ∀ (s t : State) (u : UnitId), u ≠ 0 → s.occ[u].state = .closed → step s = .next t → t.occ[u].state ≠ .closed →
    t.occ[u].state = .vacant ∧
      (Cleared t ∨
        (s.pending.head? = some .recordComplete ∧
          (∃ r, s.out.record = some r ∧ r.item = .statement u) ∧ ∃ x, s.snapshots[u] = some x ∧ x.final = true))

/-! ## BRST -/

/-- BRST asserted: the forwarded read dropped, the ACTIVE channel cancelled and a PENDING one started, the call mask
disabled, the clear-arm flag cleared; the item stays held, with its words for the rewrite (log entry 10); the buffer,
the drain, the order, the causes, the mode and every other block kept. BRST released moves the pin alone, and so does
BRST that is asserted already. While BRST is asserted, and while a forwarded read is in progress (log entry 2), an
upstream transaction is not taken and has no effect. -/
def Obligations.BrstResetsTheBusSide : Prop :=
  (∀ s : State, exec (.brst false) s = .next { s with pins := { s.pins with brst := false } }) ∧
  (∀ s : State, s.pins.brst = true → exec (.brst true) s = .next s) ∧
  (∀ (c : Instr) (s : State), Upstream c = true → (s.pins.brst = true ∨ s.link.forwarded ≠ none) →
    exec c s = .next s) ∧
  ∀ s : State, WriteOutInv s → LinkInv s → s.pins.brst = false → ∃ t, exec (.brst true) s = .next t ∧
    t = { s with
      pins := { s.pins with brst := true }, link := t.link, out := t.out, answer := t.answer
      snapshots := t.snapshots, status := { s.status with mask := 0, armed := false } } ∧
    t.call = false ∧
    t.link = { s.link with
      forwarded := none, reqRead := false, reqWriteOut := false
      port := match s.link.port with
        | some (.read r) => some (.disregarded (.read r))
        | some (.firstBurst w) => some (.disregarded (.write w))
        | some (.secondBurst w) => some (.disregarded (.write w))
        | p => p } ∧
    (s.link.forwarded ≠ none → t.answer = none) ∧ (s.link.forwarded = none → t.answer = s.answer) ∧
    (s.out.active = none → t.out = s.out ∧ t.snapshots = s.snapshots) ∧
    (∀ c, s.out.active = some c → ItemKept s t.snapshots ∧
      t.out = { s.out with
        chanI := t.out.chanI, chanP := t.out.chanP, lastActive := t.out.lastActive, record := t.out.record } ∧
      t.out.chan c = { state := .idle, outcome := .cancelled } ∧
      t.out.chan c.other = { s.out.chan c.other with
        state := if (s.out.chan c.other).state = .pending then .active else (s.out.chan c.other).state } ∧
      t.out.lastActive = (if (s.out.chan c.other).state = .pending then c.other else s.out.lastActive) ∧
      ((s.out.chan c.other).state ≠ .pending → t.out.record = none))

/-! ## Billing clock -/

/-- SECOND_EDGE short of a boundary, with no switch settled: billing time rises by 1, the phase count returns to 0
and the monitor's measure of the source restarts; in LOADING the next boundary is recomputed, in RUNNING it stands;
nothing outside the clock changes. TREF_PULSE, `dt` periods after the last clock command: with TREF current it is a
second edge, unless it comes within half a second of the switch edge; in a settling run toward TREF it starts,
advances or breaks the run, and the third pulse settles the switch; once the switch has settled it restarts the
measure alone; and of a TREF neither current nor requested only the periods pass. The periods of a pulse are the
model's operand (log entry 4); the half second is counted in them (entry 24); SECOND_EDGE with TREF current is a counted pulse
(entry 5), and returns the phase count to 0 there too (entry 28). -/
def Obligations.EdgesAndPulsesAdvanceBillingTime : Prop :=
  (∀ s : State, s.clock.switch ≠ .settled →
    (s.status.mode = .loading ∨ s.clock.time + 1 ≠ s.clock.nextBoundary) → ∃ t, exec .secondEdge s = .next t ∧
    t = { s with clock := { s.clock with
      time := s.clock.time + 1, phase := 0, nextBoundary := t.clock.nextBoundary
      sinceRun := if s.clock.current = .tref then s.clock.sinceRun
        else s.clock.sinceRun + (32768 - s.clock.phase)
      trefGuard := if s.clock.current = .tref then none else s.clock.trefGuard
      trefQuiet := if s.clock.current = .tref then some 0 else s.clock.trefQuiet
      xtalQuiet := if s.clock.current = .xtal then some 0 else s.clock.xtalQuiet } } ∧
    (s.status.mode = .running → t.clock.nextBoundary = s.clock.nextBoundary) ∧
    (s.status.mode = .loading →
      NextGridPoint s.plan.header.len.seconds (s.clock.time + 1) t.clock.nextBoundary)) ∧
  ∀ (s : State) (dt : Nat) (k : Clock),
    k = { s.clock with
      sinceRun := s.clock.sinceRun + dt
      phase := if s.clock.current = .tref then s.clock.phase else min (s.clock.phase + dt) 32767
      trefGuard := if s.clock.current = .tref then s.clock.trefGuard.map (· + dt) else s.clock.trefGuard
      xtalQuiet := if s.clock.current = .xtal ∧ dt ≠ 0 then some 0 else s.clock.xtalQuiet } →
    (s.clock.current = .tref → ¬ (s.clock.requested = some .tref ∧ s.clock.switch = .settling) →
      (∀ g, k.trefGuard = some g → 32768 ≤ 2 * g) →
      exec (.trefPulse dt) s = exec .secondEdge { s with clock := k }) ∧
    (∀ g, s.clock.current = .tref → ¬ (s.clock.requested = some .tref ∧ s.clock.switch = .settling) →
      k.trefGuard = some g → 2 * g < 32768 →
      exec (.trefPulse dt) s = .next { s with clock := { k with trefQuiet := some 0 } }) ∧
    (∀ n, s.clock.current ≠ .tref → s.clock.requested = some .tref → s.clock.switch = .settling →
      n = (if s.clock.runCount = 0 then 1
        else if 99 * 32768 ≤ 100 * k.sinceRun ∧ 100 * k.sinceRun ≤ 101 * 32768 then s.clock.runCount + 1
        else 1) →
      exec (.trefPulse dt) s = .next { s with clock := { k with
        runCount := n, sinceRun := 0, trefQuiet := some 0
        switch := if 3 ≤ n then .settled else .settling } }) ∧
    (s.clock.current ≠ .tref → s.clock.requested = some .tref → s.clock.switch = .settled →
      exec (.trefPulse dt) s = .next { s with clock := { k with trefQuiet := some 0 } }) ∧
    (s.clock.current ≠ .tref → (s.clock.requested ≠ some .tref ∨ s.clock.switch = .idle) →
      exec (.trefPulse dt) s = .next { s with clock := k })

/-- SECOND_EDGE that reaches the next boundary: the clock's steps in their order, with the pending adjustment
applied, but a positive one kept at the last grid point before the wrap. -/
def Obligations.BoundaryMovesTheClock : Prop :=
  ∀ s : State, s.status.mode = .running → s.close = none → s.clock.switch ≠ .settled →
    s.clock.time + 1 = s.clock.nextBoundary → ∃ t, exec .secondEdge s = .next t ∧
    ∀ (b : Time) (len : Nat) (a : Int), b = s.clock.nextBoundary → len = s.plan.header.len.seconds →
    a = (if 4294967296 ≤ b.toNat + len ∧ 0 < s.clock.adjust then 0 else s.clock.adjust) →
      t.clock.time = b + BitVec.ofInt 32 a ∧ t.clock.adjust = s.clock.adjust - a ∧
      t.clock.seq = s.clock.seq + 1 ∧
      t.clock.nextBoundary = (if b.toNat + len < 4294967296 then b + BitVec.ofNat 32 len else 0) ∧
      t.clock.interval = { nominal := b, actual := b + BitVec.ofInt 32 a, partialFlag := false,
                           degraded := decide (s.clock.quality = .degraded) } ∧
      t.clock.current = s.clock.current ∧ t.clock.requested = s.clock.requested ∧
      t.clock.switch = s.clock.switch ∧ t.clock.lastSwitch = s.clock.lastSwitch ∧
      t.clock.quality = s.clock.quality

/-- SECOND_EDGE that reaches the next boundary: stage 1 of the close. Every meter that missed the interval is
estimated or goes STALE; every open accumulator is moved into the snapshot; occupancy, period close due, tallies,
band and clock figures are copied; nothing else moves. -/
def Obligations.BoundaryTakesTheSnapshot : Prop :=
  ∀ s : State, s.status.mode = .running → s.close = none → s.clock.switch ≠ .settled →
    s.clock.time + 1 = s.clock.nextBoundary → ∃ t c, exec .secondEdge s = .next t ∧ t.close = some c ∧
    t = { s with
      clock := t.clock, close := some c, live := t.live
      capture := { s.capture with tallies := { taken := 0, rejected := 0, skewed := 0 } }
      occ := s.occ.map fun r => { r with cmdSinceBoundary := false }
      status := { s.status with causes := t.status.causes } } ∧
    (∀ x, x ≠ .meterStale → t.causeSet x = s.causeSet x) ∧
    (t.causeSet .meterStale = true ↔ s.causeSet .meterStale = true ∨ ∃ m : MeterId,
      Missed s.live[m] ∧ s.live[m].state = .estimating ∧ 5 ≤ (satSucc s.live[m].missed).toNat) ∧
    c.next = .direct ∧ c.boundary = s.clock.nextBoundary ∧ (∀ u : UnitId, c.occ[u] = s.occ[u].state) ∧
    c.periodDue = s.period.pending ∧ c.tallies = s.capture.tallies ∧
    c.band = lookupBand s.plan s.clock.interval.nominal ∧ c.seq = s.clock.seq ∧ c.interval = s.clock.interval ∧
    c.length = s.clock.nextBoundary - s.clock.interval.actual ∧
    c.estimates = (List.finRange 512).countP (fun m : MeterId =>
      t.live[m].state == .estimating && !s.live[m].mark) ∧
    c.stale = (List.finRange 512).countP (fun m : MeterId => t.live[m].state == .stale) ∧
    ∀ m : MeterId, ∃ l : MeterLive,
      t.live[m] = { l with actual := 0, estimated := 0, correction := 0, mark := false } ∧
      c.meters[m] =
        { actual := l.actual, estimated := l.estimated, correction := l.correction, mark := l.mark
          kind := s.plan.meters[m].kind, medium := s.plan.meters[m].medium
          binding := s.plan.meters[m].binding } ∧
      (¬ Missed s.live[m] → l = s.live[m]) ∧
      (Missed s.live[m] → l.missed = satSucc s.live[m].missed ∧
        (s.live[m].state = .live ∨ (s.live[m].state = .estimating ∧ (satSucc s.live[m].missed).toNat < 5) →
          l = { s.live[m] with
            state := .estimating, missed := l.missed, debt := s.live[m].debt + s.live[m].rate
            estimated := l.estimated, attributed := l.attributed } ∧
          Added s.live[m].estimated s.live[m].rate l.estimated ∧
          Added s.live[m].attributed s.live[m].rate l.attributed) ∧
        (s.live[m].state = .stale ∨ (s.live[m].state = .estimating ∧ 5 ≤ (satSucc s.live[m].missed).toNat) →
          l = { s.live[m] with state := .stale, missed := l.missed }))

/-- The band of an interval: the value for the half-hour slot of its nominal start, in the profile of the
lowest-numbered holiday entry that holds its day number, else in the profile of the week map. Day-profile entry
3 × profile + j holds the slots 16 × j to 16 × j + 15. -/
def Obligations.BandFollowsTheCalendar : Prop :=
  ∀ (p : Plan) (t : Time) (day slot : Nat) (profile : Fin 4) (i : Fin 12) (j : Fin 16),
    day = t.toNat / 86400 → slot = t.toNat % 86400 / 1800 → i.val = 3 * profile.val + slot / 16 →
    j.val = slot % 16 →
    ((∃ h : Fin 16, p.holidays[h].day ≠ 0 ∧ p.holidays[h].day.toNat = day ∧
        (∀ y : Fin 16, y < h → p.holidays[y].day = 0 ∨ p.holidays[y].day.toNat ≠ day) ∧
        profile = p.holidays[h].profile) ∨
      ((∀ y : Fin 16, p.holidays[y].day = 0 ∨ p.holidays[y].day.toNat ≠ day) ∧
        ∃ d : Fin 7, d.val = (day + 5) % 7 ∧ profile = p.weekMap[d])) →
    lookupBand p t = (p.dayProfiles[i])[j]

/-- XTAL_SETTLED settles a switch toward XTAL and restarts the crystal's measure. SWITCH_TIMEOUT abandons a switch
that has not settled. CLOCK_MONITOR_FAIL: of the current source, failover to IRC; of a requested source that has given
an edge or pulse since its request, the switch is abandoned; of any other source, nothing. A settled switch takes
place at the next second edge, after what the edge does by itself. An event that finds no switch it could act on
changes nothing (log entry 1); the declaration is not tested against the measure (entry 17); in LOADING the DEGRADED
flag of the open interval stands (entry 16); a TREF settling interval under way keeps its count through a failover
(entry 36). -/
def Obligations.SwitchesSettleFailOrTakePlace : Prop :=
  ∀ s : State,
    (s.clock.requested = some .xtal → s.clock.switch = .settling →
      exec .xtalSettled s = .next { s with clock := { s.clock with
        switch := .settled, crystalPeriods := 1024, xtalQuiet := some 0 } }) ∧
    (s.clock.requested = some .xtal → s.clock.switch = .settled →
      exec .xtalSettled s = .next { s with clock := { s.clock with xtalQuiet := some 0 } }) ∧
    ((s.clock.requested ≠ some .xtal ∨ s.clock.switch = .idle) → exec .xtalSettled s = .next s) ∧
    (s.clock.switch = .settling →
      exec .switchTimeout s = .next { s with
        clock := { s.clock with requested := none, switch := .idle, lastSwitch := .switchFailed }
        status := { s.status with causes := s.status.causes ||| Cause.clockEvent.mask } }) ∧
    (s.clock.switch ≠ .settling → exec .switchTimeout s = .next s) ∧
    (∀ (src : Source) (quiet : Option Nat), src ≠ .irc →
      quiet = (if src = .tref then s.clock.trefQuiet else s.clock.xtalQuiet) →
      (s.clock.current = src → exec (.clockMonitorFail src) s = .next { s with
        clock := { s.clock with
          current := .irc, phase := if src = .tref then 16384 else s.clock.phase, trefGuard := none
          quality := if s.clock.quality = .unset then .unset else .degraded
          interval := { s.clock.interval with
            degraded := s.clock.interval.degraded ||
              (s.status.mode == .running && s.clock.quality != .unset) } }
        status := { s.status with causes := s.status.causes ||| Cause.clockFail.mask } }) ∧
      (s.clock.current ≠ src → s.clock.requested = some src → s.clock.switch ≠ .idle → quiet ≠ none →
        ∃ t, exec (.clockMonitorFail src) s = .next t ∧
        t = { s with
          clock := { s.clock with requested := none, switch := .idle, lastSwitch := .switchFailed }
          status := { s.status with causes := t.status.causes } } ∧
        ∀ c, t.causeSet c = (s.causeSet c || c == .clockFail || c == .clockEvent)) ∧
      (s.clock.current ≠ src → (s.clock.requested ≠ some src ∨ s.clock.switch = .idle ∨ quiet = none) →
        exec (.clockMonitorFail src) s = .next s)) ∧
    ∀ (src : Source) (q : Quality), s.clock.switch = .settled → s.clock.requested = some src →
      (s.status.mode = .loading ∨ s.clock.time + 1 ≠ s.clock.nextBoundary ∨ s.close = none) →
      q = (if s.clock.quality = .unset then .unset else if src = .irc then .degraded else .good) →
      ∃ t e, exec .secondEdge { s with clock := { s.clock with requested := none, switch := .idle } } = .next e ∧
        exec .secondEdge s = .next t ∧
        t = { e with
          clock := { e.clock with
            current := src, phase := 0, lastSwitch := .switched, quality := q
            trefGuard := if src = .tref then some 0 else none
            interval := { e.clock.interval with
              degraded := e.clock.interval.degraded || (q == .degraded && s.status.mode == .running) } }
          status := { e.status with causes := e.status.causes ||| Cause.clockEvent.mask } }

/-- A step on an empty queue lets one period of one oscillator pass, which one being a free value (log entry 3). A
period of the link clock ages the outstanding access, and at 1024 it times out. A period of the crystal, which runs
while XTAL is current or requested, counts for the current source or toward settling, and at 1024 XTAL has settled. A
period of the IRC counts for the current source, or, while TREF is current, toward the half second after the switch
edge (entry 24), then toward the 4 s limit, then in the monitor's measure of TREF, then in that of XTAL (entry 32; the
limits in periods, entry 20). -/
def Obligations.IdleStepsMoveTheMeasures : Prop :=
  ∀ s : State,
    (s.pending = [] →
      step s = .next (oscillatorPeriod (Config.period s.idle) { s with idle := s.idle + 1 })) ∧
    (s.link.port = none → oscillatorPeriod .link s = s) ∧
    (s.link.port ≠ none → s.link.age + 1 < 1024 →
      oscillatorPeriod .link s = { s with link := { s.link with age := s.link.age + 1 } }) ∧
    (s.link.port ≠ none → 1024 ≤ s.link.age + 1 → exec .memoryTimeout s = .next (oscillatorPeriod .link s)) ∧
    (s.clock.current = .xtal → s.clock.phase + 1 < 32768 →
      oscillatorPeriod .xtal s = { s with clock := { s.clock with
        phase := s.clock.phase + 1, sinceRun := s.clock.sinceRun + 1, xtalQuiet := some 0 } }) ∧
    (s.clock.current = .xtal → 32768 ≤ s.clock.phase + 1 →
      exec .secondEdge s = .next (oscillatorPeriod .xtal s)) ∧
    (s.clock.current ≠ .xtal → (s.clock.requested ≠ some .xtal ∨ s.clock.switch = .idle) →
      oscillatorPeriod .xtal s = s) ∧
    (s.clock.current ≠ .xtal → s.clock.requested = some .xtal → s.clock.switch = .settled →
      oscillatorPeriod .xtal s = { s with clock := { s.clock with xtalQuiet := some 0 } }) ∧
    (s.clock.current ≠ .xtal → s.clock.requested = some .xtal → s.clock.switch = .settling →
      s.clock.crystalPeriods + 1 < 1024 → oscillatorPeriod .xtal s = { s with clock := { s.clock with
        crystalPeriods := s.clock.crystalPeriods + 1, xtalQuiet := some 0 } }) ∧
    (s.clock.current ≠ .xtal → s.clock.requested = some .xtal → s.clock.switch = .settling →
      1024 ≤ s.clock.crystalPeriods + 1 → exec .xtalSettled s = .next (oscillatorPeriod .xtal s)) ∧
    ∃ a b d : State,
      (s.clock.current = .irc → s.clock.phase + 1 < 32768 → a = { s with clock := { s.clock with
        phase := s.clock.phase + 1, sinceRun := s.clock.sinceRun + 1 } }) ∧
      (s.clock.current = .irc → 32768 ≤ s.clock.phase + 1 → exec .secondEdge s = .next a) ∧
      (s.clock.current = .xtal → a = s) ∧
      (s.clock.current = .tref → a = { s with clock := { s.clock with
        sinceRun := s.clock.sinceRun + 1, trefGuard := s.clock.trefGuard.map (· + 1) } }) ∧
      (a.clock.switch ≠ .settling → b = a) ∧
      (a.clock.switch = .settling → a.clock.limit + 1 < 131072 →
        b = { a with clock := { a.clock with limit := a.clock.limit + 1 } }) ∧
      (a.clock.switch = .settling → 131072 ≤ a.clock.limit + 1 →
        exec .switchTimeout { a with clock := { a.clock with limit := a.clock.limit + 1 } } = .next b) ∧
      (b.clock.trefQuiet = none ∨
          (b.clock.current ≠ .tref ∧ (b.clock.requested ≠ some .tref ∨ b.clock.switch = .idle)) → d = b) ∧
      (∀ q, b.clock.trefQuiet = some q →
        (b.clock.current = .tref ∨ (b.clock.requested = some .tref ∧ b.clock.switch ≠ .idle)) →
        (q + 1 < 49152 → d = { b with clock := { b.clock with trefQuiet := some (q + 1) } }) ∧
        (49152 ≤ q + 1 → exec (.clockMonitorFail .tref) b = .next d)) ∧
      (d.clock.xtalQuiet = none ∨
          (d.clock.current ≠ .xtal ∧ (d.clock.requested ≠ some .xtal ∨ d.clock.switch = .idle)) →
        oscillatorPeriod .irc s = d) ∧
      (∀ q, d.clock.xtalQuiet = some q →
        (d.clock.current = .xtal ∨ (d.clock.requested = some .xtal ∧ d.clock.switch ≠ .idle)) →
        (q + 1 < 33 →
          oscillatorPeriod .irc s = { d with clock := { d.clock with xtalQuiet := some (q + 1) } }) ∧
        (33 ≤ q + 1 → exec (.clockMonitorFail .xtal) d = .next (oscillatorPeriod .irc s)))

/-- CLOCK_SWITCH, condition by condition. For the current source the standing request is dropped, the switch ends
SWITCHED, time quality follows, and the rest of the clock stands; the open interval is marked where quality is then
DEGRADED in RUNNING, and stands in LOADING (log entry 16). For another source the request replaces what stood:
settling and the 4 s limit start anew, the monitor's measure of the requested source is not started until its first
period or pulse, and the other source's measure stands. -/
def Obligations.ClockSwitchIsJudged : Prop :=
  ∀ (s : State) (a : BitVec 8), UpstreamFree s → ∃ t o, exec (.clockSwitch a) s = .next t ∧
    o = (if s.locked = true then CmdOutcome.locked
      else if a ≠ 1 ∧ a ≠ 2 ∧ a ≠ 3 then .badArgument else .done) ∧
    t = { s with
      clock := t.clock, answer := some (.accept [])
      status := { s.status with
        armed := false, command := { code := 6, outcome := o, detail := 0 }, causes := t.status.causes } } ∧
    (o ≠ .done → t.clock = s.clock ∧ t.status.causes = s.status.causes) ∧
    (o = .done → ∀ src : Source, a = (match src with | .irc => 1 | .xtal => 2 | .tref => 3) →
      (src = s.clock.current →
        t.clock = { s.clock with
          requested := none, switch := .idle, lastSwitch := .switched, quality := t.clock.quality
          interval := { s.clock.interval with
            degraded := s.clock.interval.degraded ||
              (t.clock.quality == .degraded && s.status.mode == .running) } } ∧
        t.clock.quality = (if s.clock.quality = .unset then .unset else if src = .irc then .degraded else .good) ∧
        ∀ c, t.causeSet c = (s.causeSet c || c == .clockEvent)) ∧
      (src ≠ s.clock.current →
        t.status.causes = s.status.causes ∧
        t.clock = { s.clock with
          requested := some src, switch := if src = .irc then .settled else .settling
          crystalPeriods := 0, runCount := 0, sinceRun := 0, limit := 0
          trefQuiet := if src = .tref then none else s.clock.trefQuiet
          xtalQuiet := if src = .xtal then none else s.clock.xtalQuiet }))

/-- TIME_WRITE: taken in LOADING, refused in RUNNING. TIME_ADJUST_WRITE: refused while LOCKED or above L/2, else it
replaces the pending adjustment. -/
def Obligations.TimeAndAdjustmentWritesAreJudged : Prop :=
  ∀ (s : State) (v : Word), UpstreamFree s →
    (s.status.mode = .loading → ∃ t, exec (.timeWrite v) s = .next t ∧
      t = { s with
        answer := some (.accept []), status := { s.status with armed := false }
        clock := { s.clock with
          time := v, phase := 0, adjust := 0, nextBoundary := t.clock.nextBoundary
          quality := if s.clock.current = .irc then .degraded else .good } } ∧
      NextGridPoint s.plan.header.len.seconds v t.clock.nextBoundary) ∧
    (s.status.mode = .running → exec (.timeWrite v) s = .next { s with
      answer := some .refuse, status := { s.status with armed := false } }) ∧
    (s.locked = true ∨ s.plan.header.len.seconds < 2 * v.toInt.natAbs →
      exec (.timeAdjustWrite v) s = .next { s with
        answer := some .refuse, status := { s.status with armed := false } }) ∧
    (s.locked = false → 2 * v.toInt.natAbs ≤ s.plan.header.len.seconds →
      exec (.timeAdjustWrite v) s = .next { s with
        answer := some (.accept []), status := { s.status with armed := false }
        clock := { s.clock with adjust := v.toInt } })

/-- PLAN_LOCK_CHANGE: the pin takes its level, LOCKED follows at once, and nothing else changes. -/
def Obligations.PlanLockChangeMovesLocked : Prop :=
  ∀ (s : State) (level : Bool), ∃ t, exec (.planLockChange level) s = .next t ∧
    t = { s with pins := { s.pins with planLock := level } } ∧
    (t.locked = true ↔ s.plan.header.lockEnable = true ∧ level = true)

/-! ## Interval close -/

/-- STAGE_DIRECT: each UNIT meter's snapshot energy goes, through the crediting test, to its slot's direct figure
and interval sum, and its estimated sum to the estimated figure. -/
def Obligations.StageDirectBooksUnitMeters : Prop :=
  ∀ (s : State) (c : Close), s.close = some c → c.next = .direct → ∃ t, exec .stageDirect s = .next t ∧
    t = { s with accounts := t.accounts, close := some { c with next := .zones } } ∧
    ∀ (u : UnitId) (m : Medium) (f g : Figures) (e q : Int), f = s.accounts[u].get m → g = t.accounts[u].get m →
      e = sumOver c .unit m (fun x => receiver c x.binding == u) (·.energy) →
      q = sumOver c .unit m (fun x => receiver c x.binding == u) (·.estimated) →
      g = { f with direct := g.direct, estimated := g.estimated, intervalSum := g.intervalSum } ∧
      Added f.direct e g.direct ∧ Added f.intervalSum e g.intervalSum ∧ Added f.estimated q g.estimated

/-- The members of a zone are the keys that name it, in ascending key index, each with its share factor, or with its
slot's floor area where that is 0; a zone's weight is the sum of the factors. A pool's shares: each member gets its proportional part, rounded down, and the members reached in rotation
order from the start member 1 Wh of the remainder each; the shares come to the pool exactly. -/
def Obligations.SharingIsExact : Prop :=
  (∀ (p : Plan) (z : ZoneId), ((p.members z).map (·.key)).Pairwise (· < ·) ∧
    ∀ m : Member, m ∈ p.members z ↔
      p.keys[m.key].zone = some z ∧ m.unit = p.keys[m.key].unit ∧
        m.factor = (if p.keys[m.key].factor = 0 then p.units[p.keys[m.key].unit].area.toNat
          else p.keys[m.key].factor.toNat)) ∧
  (∀ ms : List Member, weight ms = (ms.map (·.factor)).sum) ∧
  ∀ (p : Nat) (pointer : KeyId) (ms : List Member), ms ≠ [] → weight ms ≠ 0 →
    ((shareOut p pointer ms).map (·.1) = ms) ∧
    (((shareOut p pointer ms).map (·.2)).sum = p) ∧
    (∀ x ∈ shareOut p pointer ms,
      p * x.1.factor / weight ms ≤ x.2 ∧ x.2 ≤ p * x.1.factor / weight ms + 1) ∧
    sharingRemainder p ms < ms.length ∧
    (∀ (i : Nat) (m : Member) (share : Nat), (shareOut p pointer ms)[i]? = some (m, share) →
      (share = p * m.factor / weight ms + 1 ↔
        ∃ k, k < sharingRemainder p ms ∧ i = (startPosition pointer ms + k) % ms.length)) ∧
    (∀ m, ms[startPosition pointer ms]? = some m →
      (pointer ≤ m.key ∧ ∀ i x, i < startPosition pointer ms → ms[i]? = some x → x.key < pointer) ∨
      (startPosition pointer ms = 0 ∧ ∀ x ∈ ms, x.key < pointer)) ∧
    (sharingRemainder p ms = 0 → pointerAfter p pointer ms = pointer) ∧
    (sharingRemainder p ms ≠ 0 → ∃ m,
      ms[(startPosition pointer ms + sharingRemainder p ms) % ms.length]? = some m ∧
      pointerAfter p pointer ms = m.key)

/-- STAGE_ZONES: each enabled common zone's pool is its ZONE meters' energy and its carry; it is shared and booked
as zone energy, or becomes the carry; a disabled zone keeps its carry and pointer. -/
def Obligations.StageZonesShareOrCarry : Prop :=
  ∀ (s : State) (c : Close), s.close = some c → c.next = .zones → ∃ t, exec .stageZones s = .next t ∧
    t = { s with accounts := t.accounts, zoneWork := t.zoneWork, close := some { c with next := .residual } } ∧
    (∀ z : ZoneId, ¬ (z.val < 30 ∧ s.plan.zones[z].enable = true) → t.zoneWork[z] = s.zoneWork[z]) ∧
    (∀ (z : ZoneId) (p : Int), z.val < 30 → s.plan.zones[z].enable = true →
      p = zoneMetered c z + s.zoneWork[z].carry →
      (Shared p (s.plan.members z) → t.zoneWork[z] =
        { carry := 0, pointer := pointerAfter p.toNat s.zoneWork[z].pointer (s.plan.members z) }) ∧
      (¬ Shared p (s.plan.members z) →
        t.zoneWork[z].pointer = s.zoneWork[z].pointer ∧ (Fits64 p → t.zoneWork[z].carry = p))) ∧
    ∀ (u : UnitId) (m : Medium) (f g : Figures) (credit : ZoneId → Int),
      f = s.accounts[u].get m → g = t.accounts[u].get m →
      (∀ z : ZoneId, z.val < 30 → s.plan.zones[z].enable = true → s.plan.zones[z].medium = m →
        Shared (zoneMetered c z + s.zoneWork[z].carry) (s.plan.members z) →
        credit z = sharesTo c u (shareOut (zoneMetered c z + s.zoneWork[z].carry).toNat s.zoneWork[z].pointer
          (s.plan.members z))) →
      (∀ z : ZoneId, ¬ (z.val < 30 ∧ s.plan.zones[z].enable = true ∧ s.plan.zones[z].medium = m ∧
        Shared (zoneMetered c z + s.zoneWork[z].carry) (s.plan.members z)) → credit z = 0) →
      g = { f with zone := g.zone, intervalSum := g.intervalSum } ∧
      Added f.zone ((List.finRange 32).map credit).sum g.zone ∧
      Added f.intervalSum ((List.finRange 32).map credit).sum g.intervalSum

/-- STAGE_RESIDUAL: the residual of each medium is plant energy less unit energy less the energy of ZONE meters
bound to enabled common zones; with the residual zone's carry it is shared and booked as residual, or becomes the
carry. -/
def Obligations.StageResidualSharesOrCarries : Prop :=
  ∀ (s : State) (c : Close), s.close = some c → c.next = .residual → ∃ t d, exec .stageResidual s = .next t ∧
    t = { s with
      accounts := t.accounts, zoneWork := t.zoneWork
      close := some { c with next := .price, distributed := d } } ∧
    (∀ z : ZoneId, z.val < 30 → t.zoneWork[z] = s.zoneWork[z]) ∧
    ∀ (m : Medium) (z : ZoneId) (p : Int), z = (match m with | .heat => (30 : ZoneId) | .cool => 31) →
      p = sumOver c .plant m (fun _ => true) (·.energy) - sumOver c .unit m (fun _ => true) (·.energy)
        - sumOver c .zone m (fun x => (List.finRange 32).any fun y =>
            y.val == x.binding.val && decide (y.val < 30) && s.plan.zones[y].enable) (·.energy)
        + s.zoneWork[z].carry →
      (s.plan.zones[z].enable = true → Shared p (s.plan.members z) →
        t.zoneWork[z] =
          { carry := 0, pointer := pointerAfter p.toNat s.zoneWork[z].pointer (s.plan.members z) } ∧
        d.get m = p ∧
        ∀ (u : UnitId) (f g : Figures), f = s.accounts[u].get m → g = t.accounts[u].get m →
          g = { f with residual := g.residual, intervalSum := g.intervalSum } ∧
          Added f.residual (sharesTo c u (shareOut p.toNat s.zoneWork[z].pointer (s.plan.members z)))
            g.residual ∧
          Added f.intervalSum (sharesTo c u (shareOut p.toNat s.zoneWork[z].pointer (s.plan.members z)))
            g.intervalSum) ∧
      (¬ (s.plan.zones[z].enable = true ∧ Shared p (s.plan.members z)) →
        t.zoneWork[z].pointer = s.zoneWork[z].pointer ∧ (Fits64 p → t.zoneWork[z].carry = p) ∧ d.get m = 0 ∧
        ∀ u : UnitId, t.accounts[u].get m = s.accounts[u].get m)

/-- STAGE_PRICE prices every slot and medium exactly: 1000 × cost + cost remainder rises by energy × price, the
remainder stays in 0..999, and the interval sum becomes the last interval energy. -/
def Obligations.StagePriceIsExact : Prop :=
  ∀ (s : State) (c : Close), s.close = some c → c.next = .price → ∃ t, exec .stagePrice s = .next t ∧
    t = { s with accounts := t.accounts, close := some { c with next := .occupancy } } ∧
    ∀ (u : UnitId) (m : Medium) (f g : Figures) (price : Int) (i : Fin 32),
      f = s.accounts[u].get m → g = t.accounts[u].get m →
      i.val = 8 * s.plan.units[u].tariff.val + c.band.val → price = (s.plan.prices[i].get m : Int) →
      g = { f with
        cost := g.cost, remainder := g.remainder, lastInterval := f.intervalSum, intervalSum := 0 } ∧
      g.remainder ≤ 999 ∧
      (Fits64 (f.cost + (f.intervalSum * price + f.remainder) / 1000) →
        1000 * g.cost + g.remainder = 1000 * f.cost + f.remainder + f.intervalSum * price)

/-- STAGE_OCCUPANCY decides each slot 1..255: the deadline count rises where the boundary has passed since the
command; a satisfied OPENING slot becomes OCCUPIED, an unsatisfied one at the deadline opened on estimate; a
satisfied CLOSING slot with no snapshot becomes CLOSED with its FINAL snapshot; the rest stay. -/
def Obligations.StageOccupancyDecides : Prop :=
  ∀ (s : State) (c : Close), s.close = some c → c.next = .occupancy → ∃ t, exec .stageOccupancy s = .next t ∧
    t = { s with
      occ := t.occ, snapshots := t.snapshots, accounts := t.accounts
      out := { s.out with
        chanI := t.out.chanI, chanP := t.out.chanP, lastActive := t.out.lastActive, record := t.out.record }
      status := { s.status with causes := t.status.causes }, close := t.close } ∧
    (∀ x, x ≠ .unitChanged → x ≠ .unitAwaiting → x ≠ .ringFull → t.causeSet x = s.causeSet x) ∧
    (∃ taken, t.close = some { c with next := .period, finalTaken := taken } ∧
      ∀ u : UnitId, (taken[u] = true ↔ s.occ[u].state = .closing ∧ t.occ[u].state = .closed) ∧
        (taken[u] = true → t.out.chanP.state ≠ .idle)) ∧
    t.occ[(0 : UnitId)] = s.occ[(0 : UnitId)] ∧ t.snapshots[(0 : UnitId)] = s.snapshots[(0 : UnitId)] ∧
    (t.causeSet .unitChanged = true ↔ s.causeSet .unitChanged = true ∨
      ∃ u : UnitId, t.occ[u].state ≠ s.occ[u].state) ∧
    (t.causeSet .unitAwaiting = true ↔ s.causeSet .unitAwaiting = true ∨
      ∃ u : UnitId, u ≠ 0 ∧ t.occ[u].state = .closing ∧ t.occ[u].outstanding ≠ 0 ∧
        t.occ[u].finalsForced = false ∧ t.occ[u].deadline < 8) ∧
    ∀ (u : UnitId) (r : OccRecord) (d : Nat), u ≠ 0 → r = s.occ[u] →
      d = (if (r.state = .opening ∨ r.state = .closing) ∧ c.occ[u] = r.state ∧ r.cmdSinceBoundary = false ∧
        r.deadline < 8 then r.deadline + 1 else r.deadline) →
      (r.state = .opening → (r.outstanding = 0 ∨ 8 ≤ d) →
        t.occ[u] = { r with
          state := .occupied, openedAt := c.boundary, deadline := 0, outstanding := 0
          openedOnEstimate := r.openedOnEstimate || r.outstanding != 0 } ∧
        t.snapshots[u] = s.snapshots[u] ∧ t.accounts[u] = s.accounts[u]) ∧
      (r.state = .opening → r.outstanding ≠ 0 → d < 8 →
        t.occ[u] = { r with deadline := d } ∧ t.snapshots[u] = s.snapshots[u] ∧ t.accounts[u] = s.accounts[u]) ∧
      (r.state = .closing → (r.outstanding = 0 ∨ r.finalsForced = true ∨ 8 ≤ d) → s.snapshots[u] = none →
        t.occ[u] = { r with state := .closed, deadline := 0, outstanding := 0 } ∧
        t.snapshots[u] = some
          { tenancy := r.tenancy, period := s.period.number, final := true, mark := false
            openedAt := r.openedAt, closing := c.boundary, tariff := s.plan.units[u].tariff
            figures := Both.of fun m =>
              { direct := (s.accounts[u].get m).direct, zone := (s.accounts[u].get m).zone
                residual := (s.accounts[u].get m).residual, estimated := (s.accounts[u].get m).estimated
                cost := (s.accounts[u].get m).cost }
            formed := none } ∧
        ∀ m : Medium, t.accounts[u].get m = { s.accounts[u].get m with
          direct := 0, zone := 0, residual := 0, estimated := 0, cost := 0 }) ∧
      (r.state = .closing → ¬ ((r.outstanding = 0 ∨ r.finalsForced = true ∨ 8 ≤ d) ∧ s.snapshots[u] = none) →
        t.occ[u] = { r with deadline := d } ∧ t.snapshots[u] = s.snapshots[u] ∧
        t.accounts[u] = s.accounts[u]) ∧
      (r.state ≠ .opening → r.state ≠ .closing →
        t.occ[u] = r ∧ t.snapshots[u] = s.snapshots[u] ∧ t.accounts[u] = s.accounts[u])

/-- STAGE_PERIOD: nothing where no period close is due; else slot 0 and every slot the snapshot shows OCCUPIED or
CLOSING gets its period snapshot (a FINAL snapshot of stage 6 takes the period mark), the trailer figures are
formed, the pending flag falls and the period number rises. Where that FINAL snapshot has been written and released
before this stage, none is taken in its place and the trailer does not count it (log entry 13). -/
def Obligations.StagePeriodTakesThePeriodSet : Prop :=
  ∀ (s : State) (c : Close), s.close = some c → c.next = .period → ∃ t, exec .stagePeriod s = .next t ∧
    (c.periodDue = false → t = { s with close := some { c with next := .summary } }) ∧
    (c.periodDue = true →
      t = { s with
        snapshots := t.snapshots, accounts := t.accounts
        out := { s.out with
          chanI := t.out.chanI, chanP := t.out.chanP, lastActive := t.out.lastActive, record := t.out.record }
        status := { s.status with causes := t.status.causes }, close := some { c with next := .summary }
        period := { number := s.period.number + 1, pending := false, trailer := t.period.trailer } } ∧
      t.out.chanP.state ≠ .idle ∧ (∀ x, x ≠ .ringFull → t.causeSet x = s.causeSet x) ∧
      (∀ u : UnitId, (u ≠ 0 ∧ c.occ[u] ≠ .occupied ∧ c.occ[u] ≠ .closing) →
        t.snapshots[u] = s.snapshots[u] ∧ t.accounts[u] = s.accounts[u]) ∧
      (∀ u : UnitId, (u = 0 ∨ c.occ[u] = .occupied ∨ c.occ[u] = .closing) → c.finalTaken[u] = true →
        t.snapshots[u] = s.snapshots[u].map (fun x => { x with mark := true }) ∧
        t.accounts[u] = s.accounts[u]) ∧
      (∀ u : UnitId, (u = 0 ∨ c.occ[u] = .occupied ∨ c.occ[u] = .closing) → c.finalTaken[u] = false →
        t.snapshots[u] = some
          { tenancy := s.occ[u].tenancy, period := s.period.number, final := false, mark := true
            openedAt := s.occ[u].openedAt, closing := c.boundary, tariff := s.plan.units[u].tariff
            figures := Both.of fun m =>
              { direct := (s.accounts[u].get m).direct, zone := (s.accounts[u].get m).zone
                residual := (s.accounts[u].get m).residual, estimated := (s.accounts[u].get m).estimated
                cost := (s.accounts[u].get m).cost }
            formed := none } ∧
        ∀ m : Medium, t.accounts[u].get m = { s.accounts[u].get m with
          direct := 0, zone := 0, residual := 0, estimated := 0, cost := 0 }) ∧
      ∃ (x : Trailer) (set : List Statement), t.period.trailer = some x ∧
        set = (List.finRange 256).filterMap (fun u : UnitId =>
          if u = 0 ∨ c.occ[u] = .occupied ∨ c.occ[u] = .closing then t.snapshots[u] else none) ∧
        x.period = s.period.number ∧ x.count = set.length ∧
        ∀ m : Medium,
          Added 0 ((set.map fun y => (y.figures.get m).cost).sum) (x.cost.get m) ∧
          Added 0 ((set.map fun y => (y.figures.get m).direct + (y.figures.get m).zone
            + (y.figures.get m).residual).sum) (x.energy.get m))

/-- STAGE_SUMMARY builds the summary from the snapshot and the totals, appends it to the holding queue (at 4, the
oldest not being written is lost first, counted and called), and returns the change results to their initial
values. STAGE_END raises INTERVAL_CLOSED and discards the snapshot. -/
def Obligations.StageSummaryOffersAndStageEndCloses : Prop :=
  ∀ (s : State) (c : Close), s.close = some c →
    (c.next = .finish → exec .stageEnd s = .next { s with
      close := none, status := { s.status with causes := s.status.causes ||| Cause.intervalClosed.mask } }) ∧
    (c.next = .summary → ∃ t x, exec .stageSummary s = .next t ∧
    t = { s with
      out := { s.out with
        holding := t.out.holding, lost := t.out.lost, chanI := t.out.chanI, chanP := t.out.chanP
        lastActive := t.out.lastActive, record := t.out.record }
      results := { applied := false, rejected := 0, writtenOff := { heat := 0, cool := 0 } }
      status := { s.status with causes := t.status.causes }, close := some { c with next := .changes } } ∧
    (∀ y, y ≠ .summaryLost → y ≠ .ringFull → t.causeSet y = s.causeSet y) ∧
    x.seq = c.seq ∧ x.interval = c.interval ∧ x.length = c.length ∧ x.tallies = c.tallies ∧
    x.estimates = c.estimates ∧ x.stale = c.stale ∧ x.changesApplied = s.results.applied ∧
    x.rejectedChanges = s.results.rejected ∧ x.lost = s.out.lost ∧
    (∀ m : Medium, x.figures.get m =
      { plant := sumOver c .plant m (fun _ => true) (·.energy)
        unitMetered := sumOver c .unit m (fun _ => true) (·.energy)
        zoneMetered := sumOver c .zone m (fun _ => true) (·.energy)
        distributed := c.distributed.get m
        carryAfter := s.zoneWork[(match m with | .heat => (30 : ZoneId) | .cool => 31)].carry
        estimated := sumMedium c m (·.estimated)
        corrections := sumMedium c m (·.correction)
        writtenOff := (s.results.writtenOff.get m : Int) }) ∧
    (s.out.holding.length < 4 → t.out.holding = s.out.holding ++ [x] ∧ t.out.lost = s.out.lost ∧
      t.causeSet .summaryLost = s.causeSet .summaryLost) ∧
    (4 ≤ s.out.holding.length → t.out.lost = satSucc s.out.lost ∧ t.causeSet .summaryLost = true ∧
      t.out.holding =
        s.out.holding.eraseIdx (if s.out.chanI.state = .active then 1 else 0) ++ [x]) ∧
    (s.out.chanI.state ≠ .idle → t.out.chanI = s.out.chanI ∧ t.out.chanP = s.out.chanP) ∧
    (s.out.chanI.state = .idle → s.out.u < 2048 → s.out.chanP.state ≠ .active → s.out.chanP.state ≠ .pending →
      t.out.chanI.state = .active) ∧
    (s.out.chanI.state = .idle → s.out.u < 2048 → s.out.chanP.state = .active → t.out.chanI.state = .pending) ∧
    (s.out.chanI.state = .idle → s.out.u = 2048 →
      t.out.chanI.state = .waitingExport ∧ t.causeSet .ringFull = true))

/-- STAGE_CHANGES handles the entries from the head, each against the tables the earlier ones have left, and takes
every entry from the queue. Unit, meter, zone and key entries are tested as R120 gives, in order, and the rest pass.
An entry that fails is dropped and recorded with the code of the first test it fails; one that passes replaces the
table entry and sets CHANGES_APPLIED, and one that is no meter entry touches nothing else. -/
def Obligations.StageChangesDropsOrApplies : Prop :=
  (∀ s : State,
    (∀ i e, FirstOf (unitTests s i e) (checkEntry s (.unit i e))) ∧
    (∀ i e, FirstOf (meterTests s i e) (checkEntry s (.meter i e))) ∧
    (∀ z e, FirstOf (zoneTests s z e) (checkEntry s (.zone z e))) ∧
    (∀ k e, FirstOf (keyTests s k e) (checkEntry s (.key k e))) ∧
    (∀ h, checkEntry s (.header h) = none) ∧ (∀ i p, checkEntry s (.price i p) = none) ∧
    (∀ i b, checkEntry s (.dayProfile i b) = none) ∧ (∀ w, checkEntry s (.weekMap w) = none) ∧
    (∀ i h, checkEntry s (.holiday i h) = none)) ∧
  ∀ (s : State) (c : Close), s.close = some c → c.next = .changes →
    (∃ t, exec .stageChanges s = .next t ∧ t.changes = [] ∧ t.close = some { c with next := .finish }) ∧
    (s.changes = [] → exec .stageChanges s = .next { s with close := some { c with next := .finish } }) ∧
    (∀ (x : Change) (rest : List Change), s.changes = x :: rest → ∃ t,
      exec .stageChanges { s with changes := [x] } = .next t ∧
      exec .stageChanges s = exec .stageChanges { t with changes := rest, close := s.close }) ∧
    ∀ (n : BitVec 12) (q : Quad) (e : PlanEntry), s.changes = [{ entry := n, words := q }] →
      decodeEntry n.toNat q = some e →
      (∀ code, checkEntry s e = some code →
        exec .stageChanges s = .next { s with
          changes := [], close := some { c with next := .finish }
          rejection := { code := code, entry := n }
          results := { s.results with rejected := s.results.rejected + 1 }
          status := { s.status with causes := s.status.causes ||| Cause.planRejected.mask } }) ∧
      (checkEntry s e = none → ∃ t, exec .stageChanges s = .next t ∧ t.plan = e.place s.plan ∧
        t.results.applied = true ∧ t.results.rejected = s.results.rejected ∧ t.rejection = s.rejection ∧
        t.status = s.status ∧
        ((∀ i x, e ≠ .meter i x) → t = { s with
          changes := [], close := some { c with next := .finish }, plan := e.place s.plan
          results := { s.results with applied := true } }) ∧
        (∀ h, e = .header h → t.plan = { s.plan with header := h }) ∧
        (∀ i x, e = .unit i x → t.plan = { s.plan with units := s.plan.units.set i x }) ∧
        (∀ i x, e = .meter i x → t.plan = { s.plan with meters := s.plan.meters.set i x }) ∧
        (∀ i x, e = .zone i x → t.plan = { s.plan with zones := s.plan.zones.set i x }) ∧
        (∀ i x, e = .price i x → t.plan = { s.plan with prices := s.plan.prices.set i x }) ∧
        (∀ i x, e = .dayProfile i x → t.plan = { s.plan with dayProfiles := s.plan.dayProfiles.set i x }) ∧
        (∀ i x, e = .holiday i x → t.plan = { s.plan with holidays := s.plan.holidays.set i x }) ∧
        (∀ i x, e = .key i x → t.plan = { s.plan with keys := s.plan.keys.set i x }))

/-- A meter entry applied at stage 9, as the one entry of the queue or, by the rule of the entries one at a time,
as any of them: a meter that keeps its identity keeps its live state; one deleted or reset
has its debt written off, in the figure of its old medium alone; unit occupancy recounts the waiting slots it
touches. A meter reset to UNSEEN keeps its reading mark and the sums of its open accumulator (log entry 33). -/
def Obligations.StageChangesAppliesAMeterEntry : Prop :=
  ∀ (s : State) (c : Close) (n : BitVec 12) (q : Quad) (i : MeterId) (new old : MeterEntry) (l : MeterLive),
    s.close = some c → c.next = .changes → s.changes = [{ entry := n, words := q }] →
    decodeEntry n.toNat q = some (.meter i new) → checkEntry s (.meter i new) = none →
    old = s.plan.meters[i] → l = s.live[i] → ∃ t, exec .stageChanges s = .next t ∧
      t = { s with
        changes := [], close := some { c with next := .finish }, live := t.live, occ := t.occ, results := t.results
        plan := { s.plan with meters := s.plan.meters.set i new } } ∧
      (∀ j : MeterId, j ≠ i → t.live[j] = s.live[j]) ∧
      (old.kind = .unused → new.kind = .unused → t.live[i] = l) ∧
      (old.kind = .unused → new.kind ≠ .unused → t.live[i] = { l with state := .unseen }) ∧
      (old.kind ≠ .unused → new.kind = .unused → t.live[i] = MeterLive.initial) ∧
      (old.kind ≠ .unused → new.kind ≠ .unused →
        ¬ (old.kind = new.kind ∧ old.medium = new.medium ∧ old.scale = new.scale ∧ old.digits = new.digits) →
        t.live[i] = { l with
          state := .unseen, debt := 0, missed := 0, attributed := 0, rate := 0, suspect := false, skewed := false
          fresh := false }) ∧
      (old.kind ≠ .unused →
        old.kind = new.kind → old.medium = new.medium → old.scale = new.scale → old.digits = new.digits →
        t.live[i] = { l with
          fresh := l.fresh && !(old.kind == .unit && old.binding != new.binding) }) ∧
      ((old.kind = .unused ∨
          (old.kind = new.kind ∧ old.medium = new.medium ∧ old.scale = new.scale ∧ old.digits = new.digits)) →
        t.results = { s.results with applied := true }) ∧
      (old.kind ≠ .unused →
        ¬ (old.kind = new.kind ∧ old.medium = new.medium ∧ old.scale = new.scale ∧ old.digits = new.digits) →
        t.results = { s.results with applied := true, writtenOff := t.results.writtenOff } ∧
        ∀ m, t.results.writtenOff.get m =
          s.results.writtenOff.get m + if m = old.medium then l.debt else 0) ∧
      (∀ u : UnitId, t.occ[u] = { s.occ[u] with outstanding := t.occ[u].outstanding }) ∧
      (∀ u : UnitId, (s.occ[u].state = .opening ∨ s.occ[u].state = .closing) →
        s.occ[u].outstanding = staleCount s.plan s.live u → t.occ[u].outstanding = staleCount t.plan t.live u) ∧
      (∀ u : UnitId, s.occ[u].state ≠ .opening → s.occ[u].state ≠ .closing → t.occ[u] = s.occ[u])

/-! ## Reading capture -/

/-- DROP_WRITE: captured and posted where both queues have room, with QUEUE_HALF at the rise to 32; RETRY with
QUEUE_FULL where the reading queue is full; RETRY alone where only the buffer is full; REFUSE where it is not one
4-word burst with all byte enables set. -/
def Obligations.DropWriteIsCapturedAndPosted : Prop :=
  ∀ (s : State) (t : WriteTxn) (off : Nat), UpstreamFree s → At s t.addr off → 0x10000 ≤ off → off < 0x10400 →
    t.aligned = true →
    (∀ a b c d : Word, t.len = .w4 → t.enables = [15, 15, 15, 15] → t.data = [a, b, c, d] →
      (s.capture.queue.length < 64 → s.link.posted.length < 8 → ∃ r, exec (.dropWrite t) s = .next r ∧
        r = { s with
          capture := { s.capture with queue := s.capture.queue ++
            [{ words := { w0 := a, w1 := b, w2 := c, w3 := d }, capture := s.clock.time
               slot := BitVec.ofNat 6 ((off - 0x10000) / 16) }] }
          link := r.link, answer := some (.accept []), status := { s.status with causes := r.status.causes } } ∧
        PostedTo t s.link r ∧
        ∀ x, r.causeSet x = (s.causeSet x || (x == .queueHalf && s.capture.queue.length == 31))) ∧
      (64 ≤ s.capture.queue.length → exec (.dropWrite t) s = .next { s with
        answer := some .retry, status := { s.status with causes := s.status.causes ||| Cause.queueFull.mask } }) ∧
      (s.capture.queue.length < 64 → 8 ≤ s.link.posted.length →
        exec (.dropWrite t) s = .next { s with answer := some .retry })) ∧
    (¬ (t.len = .w4 ∧ t.enables = [15, 15, 15, 15]) →
      exec (.dropWrite t) s = .next { s with answer := some .refuse })

/-- READING_TAKE gives the head record the outcome of the first test of R29 that it meets; it stands in the meter
entry with the drop slot; no other meter changes; and while a close is in progress nothing is taken. -/
def Obligations.ReadingTakeGivesOneOutcome : Prop :=
  ∀ (s : State) (r : QueuedReading) (rest : List QueuedReading), s.capture.queue = r :: rest →
    (s.close ≠ none → exec .readingTake s = .next s) ∧
    (s.close = none → ∃ t, exec .readingTake s = .next t ∧
      t = { s with
        live := t.live, occ := t.occ, status := { s.status with causes := t.status.causes }
        capture := { queue := rest, rejects := t.capture.rejects, tallies := t.capture.tallies } } ∧
      (s.status.mode = .loading → t.capture.tallies = s.capture.tallies) ∧
      ∀ m : MeterId,
        (m.val = readingMeter r.words →
          t.live[m].lastOutcome = outcomeOf s r m ∧ t.live[m].lastSlot = r.slot) ∧
        (m.val ≠ readingMeter r.words → t.live[m] = s.live[m]))

/-- READING_TAKE of a record that is turned away: a rejection is counted and raises READING_REJECTED, and BACKWARD
and IMPLAUSIBLE set the suspect flag; a DUPLICATE changes its last outcome alone; a number above 511 changes no
meter. -/
def Obligations.ReadingTurnedAway : Prop :=
  ∀ (s : State) (r : QueuedReading) (rest : List QueuedReading), s.capture.queue = r :: rest → s.close = none →
    (∀ (m : MeterId) (o : ReadingOutcome), m.val = readingMeter r.words → o = outcomeOf s r m →
      (o = .unknownMeter ∨ o = .doubtful ∨ o = .outOfRange ∨ o = .backward ∨ o = .implausible →
        exec .readingTake s = .next { s with
          capture :=
            { queue := rest, rejects := satSucc s.capture.rejects
              tallies := if s.status.mode = .running
                then { s.capture.tallies with rejected := satSucc s.capture.tallies.rejected }
                else s.capture.tallies }
          live := s.live.set m { s.live[m] with
            lastOutcome := o, lastSlot := r.slot
            suspect := s.live[m].suspect || o == .backward || o == .implausible }
          status := { s.status with causes := s.status.causes ||| Cause.readingRejected.mask } }) ∧
      (o = .duplicate → exec .readingTake s = .next { s with
        capture := { s.capture with queue := rest }
        live := s.live.set m { s.live[m] with lastOutcome := .duplicate, lastSlot := r.slot } })) ∧
    (511 < readingMeter r.words → exec .readingTake s = .next { s with
      capture :=
        { queue := rest, rejects := satSucc s.capture.rejects
          tallies := if s.status.mode = .running
            then { s.capture.tallies with rejected := satSucc s.capture.tallies.rejected }
            else s.capture.tallies }
      status := { s.status with causes := s.status.causes ||| Cause.readingRejected.mask } })

/-- READING_TAKE of an applying record: the tallies of RUNNING, the fresh test with the outstanding-readings count
of the bound slot, and no other meter. A BASELINE sets the meter LIVE at the record's counter and attributes
nothing. -/
def Obligations.ApplyingRecordsAreTalliedAndMakeFresh : Prop :=
  ∀ (s : State) (r : QueuedReading) (rest : List QueuedReading) (m : MeterId), s.capture.queue = r :: rest →
    s.close = none → m.val = readingMeter r.words →
    (outcomeOf s r m = .baseline ∨ outcomeOf s r m = .taken) → ∃ t, exec .readingTake s = .next t ∧
      t = { s with
        live := t.live, occ := t.occ
        capture :=
          { queue := rest, rejects := s.capture.rejects
            tallies := if s.status.mode = .running
              then { s.capture.tallies with
                taken := satSucc s.capture.tallies.taken
                skewed := if skewOf r then satSucc s.capture.tallies.skewed else s.capture.tallies.skewed }
              else s.capture.tallies } } ∧
      t.live[m].skewed = skewOf r ∧ t.live[m].fresh = (s.live[m].fresh || makesFresh s m) ∧
      (∀ j : MeterId, j ≠ m → t.live[j] = s.live[j]) ∧
      t.occ = (if makesFresh s m = true ∧ s.live[m].fresh = false
        then s.occ.set s.plan.meters[m].binding { s.occ[s.plan.meters[m].binding] with
          outstanding := s.occ[s.plan.meters[m].binding].outstanding - 1 }
        else s.occ) ∧
      (outcomeOf s r m = .baseline → t.live[m] = { s.live[m] with
        state := .live, lastCounter := readingCounter r.words, lastCapture := r.capture
        lastTag := readingTag r.words, rate := 0, debt := 0, missed := 0, attributed := 0, mark := true
        lastOutcome := .baseline, lastSlot := r.slot
        skewed := skewOf r, fresh := s.live[m].fresh || makesFresh s m })

/-- READING_TAKE of a TAKEN record: D, or D less the debt, goes to one part of the open accumulator and to the
attributed total, the debt is reconciled, and the rate is learned under its cap. -/
def Obligations.TakenReadingIsApplied : Prop :=
  ∀ (s : State) (r : QueuedReading) (rest : List QueuedReading) (m : MeterId) (e : MeterEntry) (l : MeterLive)
    (d : Nat), s.capture.queue = r :: rest → s.close = none → m.val = readingMeter r.words →
    outcomeOf s r m = .taken → e = s.plan.meters[m] → l = s.live[m] → d = deltaOf e l r →
    ∃ t g, exec .readingTake s = .next t ∧ g = t.live[m] ∧
      g = { l with
        state := .live, lastCounter := readingCounter r.words, lastCapture := r.capture
        lastTag := readingTag r.words, missed := 0, debt := 0, suspect := false, mark := true
        lastOutcome := .taken, lastSlot := r.slot
        skewed := skewOf r, fresh := l.fresh || makesFresh s m
        actual := g.actual, estimated := g.estimated, correction := g.correction, attributed := g.attributed
        rate := if elapsedOf l r = 0 then l.rate
          else min (d * s.plan.header.len.seconds / elapsedOf l r)
            (e.ratedMax * s.plan.header.len.seconds / 3600) } ∧
      (l.debt = 0 → readingQuality r.words = 0 →
        Added l.actual d g.actual ∧ g.estimated = l.estimated ∧ g.correction = l.correction) ∧
      (l.debt = 0 → readingQuality r.words ≠ 0 →
        Added l.estimated d g.estimated ∧ g.actual = l.actual ∧ g.correction = l.correction) ∧
      (l.debt ≠ 0 →
        Added l.correction ((d : Int) - l.debt) g.correction ∧ g.actual = l.actual ∧ g.estimated = l.estimated) ∧
      (Fits64 (l.attributed + ((d : Int) - l.debt)) →
        g.attributed - g.debt = l.attributed - l.debt + d)

/-! ## Memory link -/

/-- POSTED_WRITE into pass-through memory: appended to the buffer and answered ACCEPT where it has room, else
RETRY. FORWARDED_READ: RETRY where a posted write covers a word of it; else it is the transaction in progress, and
it has the port at once where the port is free. -/
def Obligations.PassThroughTransactionsAreTaken : Prop :=
  ∀ s : State, UpstreamFree s →
    (∀ t : WriteTxn, PassThrough s t.addr → t.aligned = true →
      (s.link.posted.length < 8 → ∃ r, exec (.postedWrite t) s = .next r ∧
        r = { s with link := r.link, answer := some (.accept []) } ∧ PostedTo t s.link r) ∧
      (8 ≤ s.link.posted.length → exec (.postedWrite t) s = .next { s with answer := some .retry })) ∧
    ∀ t : ReadTxn, t.aligned = true → (PassThrough s t.addr ∨ ∃ off, At s t.addr off ∧ off < 0x10400) →
      ((∃ w ∈ s.link.posted, Overlaps w t) →
        exec (.forwardedRead t) s = .next { s with answer := some .retry }) ∧
      ((∀ w ∈ s.link.posted, ¬ Overlaps w t) → ∃ r, exec (.forwardedRead t) s = .next r ∧
        r = { s with link := r.link, answer := none } ∧ r.link.forwarded = some t ∧
        Arbitrated r { s.link with forwarded := some t, reqRead := true } ∧
        (LinkInv s → s.link.port = none → r.link.port = some (.read t)) ∧
        (∀ a, s.link.port = some a → r.link.port = some a ∧ r.link.reqRead = true))

/-- STATEMENT_RING_ACCESS: a write to an unexported slot is refused, any access to the record being written is
answered RETRY, and the rest goes as pass-through does. -/
def Obligations.RingAccessIsGuarded : Prop :=
  ∀ (s : State) (t : Txn) (a : Addr) (off : Nat) (slot : BitVec 11), UpstreamFree s → t.aligned = true →
    a = (match t with | .write w => w.addr | .read r => r.addr) → At s a off → 0x20000 ≤ off → off < 0x40000 →
    slot = BitVec.ofNat 11 ((off - 0x20000) / 64) → s.out.u ≤ 2048 →
    (∀ w, t = .write w → Unexported s.out slot →
      exec (.statementRingAccess t) s = .next { s with answer := some .refuse }) ∧
    (∀ w, t = .write w → ¬ Unexported s.out slot → slot = s.out.w → s.out.active ≠ none →
      exec (.statementRingAccess t) s = .next { s with answer := some .retry }) ∧
    (∀ w, t = .write w → ¬ Unexported s.out slot → ¬ (slot = s.out.w ∧ s.out.active ≠ none) →
      (s.link.posted.length < 8 → ∃ r, exec (.statementRingAccess t) s = .next r ∧
        r = { s with link := r.link, answer := some (.accept []) } ∧ PostedTo w s.link r) ∧
      (8 ≤ s.link.posted.length →
        exec (.statementRingAccess t) s = .next { s with answer := some .retry })) ∧
    (∀ q, t = .read q → slot = s.out.w → s.out.active ≠ none →
      exec (.statementRingAccess t) s = .next { s with answer := some .retry }) ∧
    (∀ q, t = .read q → ¬ (slot = s.out.w ∧ s.out.active ≠ none) →
      ((∃ w ∈ s.link.posted, Overlaps w q) →
        exec (.statementRingAccess t) s = .next { s with answer := some .retry }) ∧
      ((∀ w ∈ s.link.posted, ¬ Overlaps w q) → ∃ r, exec (.statementRingAccess t) s = .next r ∧
        r = { s with link := r.link, answer := none } ∧ 
        Arbitrated r { s.link with forwarded := some q, reqRead := true }))

/-- MISALIGNED_TRANSACTION is refused wherever it falls; ACCOUNT_WINDOW_WRITE is refused; STATUS_WRITE_REFUSED, a
status-block write of the wrong form or to a read-only word, is refused and disarms. Nothing else changes, but for
the disarming by a write into the status block; a misaligned write is into the status block where its start address
lies there (log entry 34). -/
def Obligations.RefusedAtTheDecision : Prop :=
  ∀ s : State, UpstreamFree s →
    (∀ t : Txn, t.aligned = false →
      exec (.misalignedTransaction t) s = .next { s with
        answer := some .refuse
        status := { s.status with armed := s.status.armed && !(match t with
          | .write w => decide (s.pins.anchor.toNat * 2097152 + 0x10400 ≤ w.addr.toNat ∧
              w.addr.toNat < s.pins.anchor.toNat * 2097152 + 0x10440)
          | .read _ => false) } }) ∧
    (∀ (t : WriteTxn) (off : Nat), At s t.addr off → t.aligned = true → 0x11000 ≤ off → off < 0x1D200 →
      exec (.accountWindowWrite t) s = .next { s with answer := some .refuse }) ∧
    (∀ (t : WriteTxn) (off : Nat), At s t.addr off → t.aligned = true → 0x10400 ≤ off → off < 0x10440 →
      (t.len ≠ .w1 ∨ t.enables ≠ [15] ∨ (off - 0x10400) / 4 ∈ [0, 1, 8, 9, 10, 12, 13, 14, 15]) →
      exec (.statusWriteRefused t) s = .next { s with
        answer := some .refuse, status := { s.status with armed := false } })

/-- A read of the status block or of the account window is answered at once from the state and changes nothing: the 16
status words, the unit records, the meter records and the zone records show the fields at their places. Such a read
has no row of its own and comes as a FORWARDED_READ (log entry 14). -/
def Obligations.ClaimedReadsShowTheState : Prop :=
  ∀ (s : State) (t : ReadTxn) (off : Nat), UpstreamFree s → At s t.addr off → t.aligned = true →
    ((0x10400 ≤ off ∧ off < 0x10440) ∨ (0x11000 ≤ off ∧ off < 0x1D200)) → ∃ data,
    exec (.forwardedRead t) s = .next { s with answer := some (.accept data) } ∧ data.length = t.len.words ∧
    (∀ j i : Nat, j < t.len.words → i < 16 → off + 4 * j = 0x10400 + 4 * i → data[j]? =
      ([0x41200001,
        wordOf [(0, 1, (s.status.mode == .running).toNat), (1, 1, s.close.isSome.toNat),
          (2, 2, codeIn [.irc, .xtal, .tref] s.clock.current),
          (4, 2, codeIn [none, some .irc, some .xtal, some .tref] s.clock.requested),
          (6, 2, codeIn [.idle, .settling, .settled] s.clock.switch),
          (8, 2, codeIn [.none, .switched, .switchFailed] s.clock.lastSwitch),
          (10, 2, codeIn [.unset, .good, .degraded] s.clock.quality),
          (12, 1, (s.plan.header.lockEnable && s.pins.planLock).toNat), (13, 1, s.pins.planLock.toNat)],
        s.status.causes.setWidth 32, s.status.mask.setWidth 32,
        wordOf [(0, 8, s.status.command.code.toNat), (8, 8, codeIn outcomeCodes s.status.command.outcome),
          (16, 12, s.status.command.detail.toNat)],
        wordOf [(0, 8, s.status.unitCommand.code.toNat), (8, 8, s.status.unitCommand.slot.val),
          (16, 8, codeIn outcomeCodes s.status.unitCommand.outcome)],
        s.clock.time, BitVec.ofInt 32 s.clock.adjust,
        wordOf [(0, 7, s.capture.queue.length), (8, 6, s.changes.length)],
        wordOf [(0, 2, codeIn channelStates s.out.chanI.state), (2, 2, codeIn channelOutcomes s.out.chanI.outcome),
          (8, 2, codeIn channelStates s.out.chanP.state), (10, 2, codeIn channelOutcomes s.out.chanP.outcome),
          (16, 3, s.out.holding.length)],
        wordOf [(0, 11, s.out.w.toNat), (16, 12, s.out.u)], s.out.x.setWidth 32,
        wordOf [(0, 16, s.link.discarded.toNat), (16, 16, s.out.lost.toNat)],
        wordOf [(0, 16, s.capture.rejects.toNat), (16, 3, codeIn outcomeCodes s.rejection.code),
          (20, 12, s.rejection.entry.toNat)],
        wordOf [(0, 16, s.period.number.toNat), (16, 1, s.period.pending.toNat),
          (17, 9, s.snapshots.toList.countP (·.isSome)), (26, 1, s.period.trailer.isSome.toNat)],
        wordOf [(0, 23, s.clock.nextBoundary.toNat / 900), (23, 9, s.clock.seq.toNat)]] : List Word)[i]?) ∧
    (∀ (j i : Nat) (u : UnitId) (r : OccRecord), j < t.len.words → i < 32 → r = s.occ[u] →
      off + 4 * j = 0x11000 + 128 * u.val + 4 * i → data[j]? =
      ([wordOf [(0, 3, codeIn [.vacant, .opening, .occupied, .closing, .closed] r.state),
          (3, 1, r.openedOnEstimate.toNat), (4, 1, r.finalsForced.toNat), (5, 1, s.snapshots[u].isSome.toNat),
          (6, 1, (s.snapshots[u].any (·.final)).toNat), (8, 4, r.deadline), (16, 10, r.outstanding)],
        wordOf [(0, 16, r.tenancy.toNat), (16, 16, s.plan.units[u].area.toNat)], r.openedAt, r.closeCmdAt,
        wordOf [(0, 8, s.plan.units[u].tariff.val)], 0] ++
        shownFigures s.accounts[u].heat ++ shownFigures s.accounts[u].cool)[i]?) ∧
    (∀ (j i : Nat) (m : MeterId) (l : MeterLive), j < t.len.words → i < 8 → l = s.live[m] →
      off + 4 * j = 0x19000 + 32 * m.val + 4 * i → data[j]? =
      ([wordOf [(0, 3, codeIn [.unused, .unseen, .live, .estimating, .stale] l.state),
          (3, 4, codeIn [.none, .baseline, .taken, .duplicate, .unknownMeter, .doubtful, .outOfRange, .backward,
            .implausible] l.lastOutcome),
          (7, 1, l.mark.toNat), (8, 6, l.lastSlot.toNat), (14, 1, l.skewed.toNat), (15, 1, l.fresh.toNat),
          (16, 1, l.suspect.toNat), (17, 7, min l.missed.toNat 127),
          (24, 2, codeIn [.unused, .unit, .zone, .plant] s.plan.meters[m].kind),
          (26, 1, codeIn [.heat, .cool] s.plan.meters[m].medium)],
        l.lastCounter, l.lastCapture, l.lastTag, wordOf [(0, 22, l.rate)], BitVec.ofNat 32 l.debt,
        BitVec.ofInt 32 l.attributed, nearest32 (l.actual + l.estimated + l.correction)] : List Word)[i]?) ∧
    ∀ (j i : Nat) (z : ZoneId), j < t.len.words → i < 4 → off + 4 * j = 0x1D000 + 16 * z.val + 4 * i → data[j]? =
      ([wordOf [(0, 1, s.plan.zones[z].enable.toNat),
          (1, 1, if z.val = 30 then 0 else if z.val = 31 then 1 else codeIn [.heat, .cool] s.plan.zones[z].medium),
          (8, 24, min (weight (s.plan.members z)) 16777215)],
        wordOf [(0, 11, s.zoneWork[z].pointer.val), (16, 12, (s.plan.members z).length)]] ++
        lowHigh s.zoneWork[z].carry)[i]?

/-- PLAN_WRITE accepted: in LOADING its contents replace the table entry at once, a change of L acting on the clock
and a meter entry on its live fields; in RUNNING it joins the change queue. Both ways it is posted. A meter reset to
UNSEEN keeps its reading mark and the sums of its open accumulator (log entry 33). -/
def Obligations.PlanWriteIsAccepted : Prop :=
  ∀ (s : State) (t : WriteTxn) (off : Nat) (a b c d : Word) (q : Quad) (e : PlanEntry), UpstreamFree s →
    At s t.addr off → off < 0x10000 → t.aligned = true → t.len = .w4 → t.enables = [15, 15, 15, 15] →
    t.data = [a, b, c, d] → q = { w0 := a, w1 := b, w2 := c, w3 := d } → decodeEntry (off / 16) q = some e →
    (s.locked = true → (∃ i x, e = .unit i x) ∨ ∃ i x, e = .meter i x) → s.link.posted.length < 8 →
    (s.status.mode = .loading → ∃ r, exec (.planWrite t) s = .next r ∧
      r = { s with
        link := r.link, answer := some (.accept []), plan := e.place s.plan, live := r.live
        clock := { s.clock with adjust := r.clock.adjust, nextBoundary := r.clock.nextBoundary } } ∧
      PostedTo t s.link r ∧
      (r.plan.header.len = s.plan.header.len → r.clock = s.clock) ∧
      (r.plan.header.len ≠ s.plan.header.len →
        NextGridPoint r.plan.header.len.seconds s.clock.time r.clock.nextBoundary ∧
        r.clock.adjust =
          if 2 * s.clock.adjust.natAbs ≤ r.plan.header.len.seconds then s.clock.adjust else 0) ∧
      ((∀ i x, e ≠ .meter i x) → r.live = s.live) ∧
      (∀ i x, e = .meter i x → (∀ j : MeterId, j ≠ i → r.live[j] = s.live[j]) ∧
        (s.plan.meters[i].kind = .unused → x.kind = .unused → r.live[i] = s.live[i]) ∧
        (s.plan.meters[i].kind = .unused → x.kind ≠ .unused → r.live[i] = { s.live[i] with state := .unseen }) ∧
        (s.plan.meters[i].kind ≠ .unused → x.kind = .unused → r.live[i] = MeterLive.initial) ∧
        (s.plan.meters[i].kind = x.kind → s.plan.meters[i].medium = x.medium → s.plan.meters[i].scale = x.scale →
          s.plan.meters[i].digits = x.digits → r.live[i] = s.live[i]) ∧
        (s.plan.meters[i].kind ≠ .unused → x.kind ≠ .unused →
          ¬ (s.plan.meters[i].kind = x.kind ∧ s.plan.meters[i].medium = x.medium ∧
            s.plan.meters[i].scale = x.scale ∧ s.plan.meters[i].digits = x.digits) →
          r.live[i] = { s.live[i] with
            state := .unseen, debt := 0, missed := 0, attributed := 0, rate := 0, suspect := false
            skewed := false, fresh := false }))) ∧
    (s.status.mode = .running → (∀ p, e ≠ .weekMap p) → (∀ h, e = .header h → h.len = s.plan.header.len) →
      s.changes.length < 32 → ∃ r, exec (.planWrite t) s = .next r ∧
      r = { s with
        link := r.link, answer := some (.accept [])
        changes := s.changes ++ [{ entry := BitVec.ofNat 12 (off / 16), words := q }] } ∧
      PostedTo t s.link r)

/-- PLAN_WRITE turned away: REFUSE for its form, its offset or a field check, for a locked kind, and in RUNNING for
the week map and another interval length; RETRY for a full buffer, and in RUNNING for a full change queue. -/
def Obligations.PlanWriteIsTurnedAway : Prop :=
  ∀ (s : State) (t : WriteTxn) (off : Nat), UpstreamFree s → At s t.addr off → off < 0x10000 → t.aligned = true →
    (¬ (t.len = .w4 ∧ t.enables = [15, 15, 15, 15]) →
      exec (.planWrite t) s = .next { s with answer := some .refuse }) ∧
    ∀ (a b c d : Word) (q : Quad), t.len = .w4 → t.enables = [15, 15, 15, 15] → t.data = [a, b, c, d] →
      q = { w0 := a, w1 := b, w2 := c, w3 := d } →
      (decodeEntry (off / 16) q = none → exec (.planWrite t) s = .next { s with answer := some .refuse }) ∧
      ∀ e : PlanEntry, decodeEntry (off / 16) q = some e →
        (s.locked = true → (∀ i x, e ≠ .unit i x) → (∀ i x, e ≠ .meter i x) →
          exec (.planWrite t) s = .next { s with answer := some .refuse }) ∧
        (s.status.mode = .running → ((∃ p, e = .weekMap p) ∨ ∃ h, e = .header h ∧ h.len ≠ s.plan.header.len) →
          exec (.planWrite t) s = .next { s with answer := some .refuse }) ∧
        ((s.locked = true → (∃ i x, e = .unit i x) ∨ ∃ i x, e = .meter i x) →
          (s.status.mode = .running →
            (∀ p, e ≠ .weekMap p) ∧ ∀ h, e = .header h → h.len = s.plan.header.len) →
          (8 ≤ s.link.posted.length ∨ (s.status.mode = .running ∧ 32 ≤ s.changes.length)) →
          exec (.planWrite t) s = .next { s with answer := some .retry })

/-- Memory's answers. DRAIN_WRITE_ACCEPTED and DRAIN_WRITE_DISCARDED: the head entry leaves the buffer and the drain
requests the port for the next; a discard is counted and raises MEMORY_FAULT. READ_ANSWER: the answer is relayed as
memory gave it and the transaction ends. MEMORY_TIMEOUT ends an access as if memory had refused it, whatever its age
(log entry 35). DISREGARDED_MEMORY_ANSWER ends its access and acts on nothing else. Each time the access leaves the
port, which is then free or carries the access that the arbiter grants. -/
def Obligations.AnswersAndTimeoutsEndTheAccess : Prop :=
  ∀ s : State,
    (∀ (w : WriteTxn) (l : Link), s.link.port = some (.drain w) →
      l = { s.link with
        port := none, posted := s.link.posted.tail
        reqDrain := s.link.reqDrain || !s.link.posted.tail.isEmpty } →
      (∃ t, exec .drainWriteAccepted s = .next t ∧ t = { s with link := t.link } ∧ Arbitrated t l ∧
        (s.link.posted.tail ≠ [] → t.link.draining = true ∨ t.link.reqDrain = true)) ∧
      (∃ t, exec .drainWriteDiscarded s = .next t ∧ exec .memoryTimeout s = .next t ∧
        t = { s with
          link := t.link
          status := { s.status with causes := s.status.causes ||| Cause.memoryFault.mask } } ∧
        Arbitrated t { l with discarded := satSucc s.link.discarded } ∧
        (s.link.posted.tail ≠ [] → t.link.draining = true ∨ t.link.reqDrain = true))) ∧
    (∀ (q : ReadTxn) (a : MemAnswer), s.link.port = some (.read q) →
      ∃ t, exec (.readAnswer a) s = .next t ∧ t = { s with link := t.link, answer := t.answer } ∧
        t.answer = (match a with | .accept data => some (.accept data) | .refuse => some .refuse) ∧
        Arbitrated t { s.link with port := none, forwarded := none } ∧
        (a = .refuse → exec .memoryTimeout s = .next t)) ∧
    (∀ w, s.link.port = some (.firstBurst w) ∨ s.link.port = some (.secondBurst w) →
      ∃ t, exec .memoryTimeout s = .next t ∧ exec .recordAbandoned s = .next t ∧
        Arbitrated t { s.link with port := none }) ∧
    (∀ x, s.link.port = some (.disregarded x) →
      ∃ t, exec .disregardedMemoryAnswer s = .next t ∧ exec .memoryTimeout s = .next t ∧
        t = { s with link := t.link } ∧ Arbitrated t { s.link with port := none } ∧
        ((∀ r, s.link.waits r = false) → t.link = { s.link with port := none }))

/-- The arbiter: while the port is free, the waiting requester that stands highest in the order issues its access
and moves to the bottom, the other two keeping their order; a port that is taken, or that nobody waits for, stays
as it is. -/
def Obligations.GrantFollowsTheOrder : Prop :=
  ∀ s : State, s.link.order.Perm [.drain, .read, .writeOut] →
    (s.link.port ≠ none → grant s = s) ∧ ((∀ r, s.link.waits r = false) → grant s = s) ∧
    ∀ (above below : List Requester) (r : Requester), s.link.port = none → s.link.order = above ++ r :: below →
      (∀ x ∈ above, s.link.waits x = false) → s.link.waits r = true →
      grant s = { s with link := (grant s).link } ∧ (grant s).link.order = above ++ below ++ [r] ∧
      (grant s).link.port = accessFor s r ∧ (grant s).link.age = 0 ∧ (grant s).link.waits r = false ∧
      (∀ x, x ≠ r → (grant s).link.waits x = s.link.waits x) ∧ (grant s).link.posted = s.link.posted ∧
      (grant s).link.forwarded = s.link.forwarded ∧ (grant s).link.discarded = s.link.discarded

/-! ## Write-out -/

/-- A channel that becomes ACTIVE chooses its item and forms the record's words at once: channel I the head summary;
channel P the trailer where no period-marked snapshot is held, else the statement of the lowest unit. RECORD_START
then waits while a posted write covers a word of slot W; with none it requests the first burst, words 0..7 at the
slot's start, which has the port at once where the port is free. FIRST_BURST_ACCEPTED: the second burst, words 8..15
at the slot's start + 32, is requested or issued. A FINAL statement formed before stage 7 marks its snapshot goes out
without the mark (log entry 10). -/
def Obligations.RecordIsWrittenInTwoBursts : Prop :=
  (∀ (s : State) (c : Channel), s.out.active = none → s.out.u < 2048 → (s.out.chan c).state = .pending →
    ((s.out.chan c.other).state = .pending → s.out.lastActive = c.other) →
    choose s = { s with out := { s.out with
      chanI := (choose s).out.chanI, chanP := (choose s).out.chanP, lastActive := c
      record := (choose s).out.record } } ∧
    (choose s).out.chan c = { s.out.chan c with state := .active } ∧
    (choose s).out.chan c.other = s.out.chan c.other ∧
    (c = .i → s.out.holding ≠ [] → (choose s).out.record =
      some { item := .summary, words := recordWords s .summary, step := .waiting }) ∧
    (c = .p → s.period.trailer ≠ none →
      (∀ (u : UnitId) (x : Statement), s.snapshots[u] = some x → x.mark = false) →
      (choose s).out.record = some { item := .trailer, words := recordWords s .trailer, step := .waiting }) ∧
    (∀ u : UnitId, c = .p → s.snapshots[u] ≠ none → (∀ v : UnitId, v < u → s.snapshots[v] = none) →
      (s.period.trailer = none ∨ ∃ (v : UnitId) (x : Statement), s.snapshots[v] = some x ∧ x.mark = true) →
      (choose s).out.record =
        some { item := .statement u, words := recordWords s (.statement u), step := .waiting })) ∧
  ∀ (s : State) (r : Record) (base : Nat), s.out.record = some r →
    base = s.pins.anchor.toNat * 2097152 + 0x20000 + 64 * s.out.w.toNat →
    ((∃ w ∈ s.link.posted, w.addr.toNat < base + 64 ∧ base < w.addr.toNat + 4 * w.len.words) →
      exec .recordStart s = .next s) ∧
    (r.step = .waiting → s.out.active ≠ none →
      (∀ w ∈ s.link.posted, w.addr.toNat + 4 * w.len.words ≤ base ∨ base + 64 ≤ w.addr.toNat) →
      ∃ t, exec .recordStart s = .next t ∧
        t = { s with link := t.link, out := { s.out with record := some { r with step := .first } } } ∧
        Arbitrated t { s.link with reqWriteOut := true } ∧
        (∀ a, s.link.port = some a → t.link = { s.link with reqWriteOut := true }) ∧
        (LinkInv s → s.link.port = none → t.link.port = some (.firstBurst
          { addr := BitVec.ofNat 24 base, len := .w8, data := r.words.take 8
            enables := List.replicate 8 15 }))) ∧
    (∀ w, s.link.port = some (.firstBurst w) → ∃ t, exec .firstBurstAccepted s = .next t ∧
      t = { s with link := t.link, out := { s.out with record := some { r with step := .second } } } ∧
      (t.link.reqWriteOut = true ∨ t.link.port = some (.secondBurst
        { addr := BitVec.ofNat 24 (base + 32), len := .w8, data := (r.words.drop 8).take 8
          enables := List.replicate 8 15 })) ∧
      Arbitrated t { s.link with port := none, reqWriteOut := true })

/-- RECORD_COMPLETE: W, U and the record sequence number rise, the outcome is COMPLETE, the item is released (a
FINAL statement's slot becomes VACANT), and the channel takes its next state. -/
def Obligations.RecordCompleteReleasesItsItem : Prop :=
  ∀ (s : State) (w : WriteTxn) (c : Channel) (r : Record), WriteOutInv s → s.link.port = some (.secondBurst w) →
    s.out.active = some c → s.out.record = some r → ∃ t, exec .recordComplete s = .next t ∧
      t = { s with
        link := t.link, out := t.out, snapshots := t.snapshots, occ := t.occ, period := t.period
        status := { s.status with causes := t.status.causes } } ∧
      Arbitrated t { s.link with port := none } ∧
      (∀ x, x ≠ .unitChanged → x ≠ .periodWritten → x ≠ .ringFull → t.causeSet x = s.causeSet x) ∧
      t.out.w = s.out.w + 1 ∧ t.out.u = s.out.u + 1 ∧ t.out.seq = s.out.seq + 1 ∧ t.out.x = s.out.x ∧
      t.out.lost = s.out.lost ∧ (t.out.chan c).outcome = .complete ∧
      (t.out.chan c.other).outcome = (s.out.chan c.other).outcome ∧
      (r.item = .summary → t.out.holding = s.out.holding.tail ∧ t.snapshots = s.snapshots ∧ t.occ = s.occ ∧
        t.period = s.period) ∧
      (∀ u, r.item = .statement u → t.out.holding = s.out.holding ∧ t.period = s.period ∧
        t.snapshots = s.snapshots.set u none ∧
        (∀ x, s.snapshots[u] = some x → x.final = true → s.occ[u].state = .closed →
          t.occ = s.occ.set u { s.occ[u] with state := .vacant } ∧ t.causeSet .unitChanged = true) ∧
        (∀ x, s.snapshots[u] = some x → x.final = false → t.occ = s.occ)) ∧
      (r.item = .trailer → t.out.holding = s.out.holding ∧ t.snapshots = s.snapshots ∧ t.occ = s.occ ∧
        t.period = { s.period with trailer := none } ∧ t.causeSet .periodWritten = true) ∧
      (hasWork t c = false → (t.out.chan c).state = .idle) ∧
      (hasWork t c = true → s.out.u + 1 < 2048 →
        (t.out.chan c).state = .pending ∨ (t.out.chan c).state = .active) ∧
      (hasWork t c = true → s.out.u + 1 = 2048 →
        (t.out.chan c).state = .waitingExport ∧ t.causeSet .ringFull = true) ∧
      ((s.out.chan c.other).state = .pending → s.out.u + 1 < 2048 → (t.out.chan c.other).state = .active) ∧
      ((s.out.chan c.other).state = .pending → s.out.u + 1 = 2048 →
        (t.out.chan c.other).state = .waitingExport ∧ t.causeSet .ringFull = true)

/-- RECORD_ABANDONED: the channel is IDLE with TERMINATED_MEMORY and WRITEOUT_FAULT is raised; W, U, the sequence
number and the item stay; a PENDING other channel goes next. Written again, the item carries the words it was formed
with but for word 1, also where stage 7 has marked a FINAL snapshot since (log entry 10). -/
def Obligations.RecordAbandonedKeepsItsItem : Prop :=
  ∀ (s : State) (w : WriteTxn) (c : Channel), WriteOutInv s →
    (s.link.port = some (.firstBurst w) ∨ s.link.port = some (.secondBurst w)) → s.out.active = some c →
    ∃ t, exec .recordAbandoned s = .next t ∧
      t = { s with
        link := t.link, snapshots := t.snapshots
        out := { s.out with
          chanI := t.out.chanI, chanP := t.out.chanP, lastActive := t.out.lastActive, record := t.out.record }
        status := { s.status with causes := s.status.causes ||| Cause.writeoutFault.mask } } ∧
      ItemKept s t.snapshots ∧
      (∀ (r : Record) (u : UnitId) (e : State) (x : Statement), s.out.record = some r → r.item = .statement u →
        t.snapshots[u] = some x →
        (e.snapshots[u] = some x ∨ e.snapshots[u] = some { x with mark := true }) →
        recordWords e (.statement u) = r.words.set 1 e.out.seq) ∧
      (recordWords t .summary = recordWords s .summary ∧ recordWords t .trailer = recordWords s .trailer) ∧
      t.out.chan c = { state := .idle, outcome := .terminatedMemory } ∧
      t.out.chan c.other = { s.out.chan c.other with
        state := if (s.out.chan c.other).state = .pending then .active else (s.out.chan c.other).state } ∧
      Arbitrated t { s.link with port := none }

/-- EXPORT_WRITE: a count not above U advances X and lowers U, and where it is 1 or more the waiting channels resume
and one of them becomes ACTIVE; a larger count is refused. -/
def Obligations.ExportReleasesSlots : Prop :=
  ∀ (s : State) (n : Word), UpstreamFree s → s.out.u ≤ 2048 →
    (s.out.u < n.toNat → exec (.exportWrite n) s = .next { s with
      answer := some .refuse, status := { s.status with armed := false } }) ∧
    (n = 0 → exec (.exportWrite n) s = .next { s with
      answer := some (.accept []), status := { s.status with armed := false } }) ∧
    (n ≠ 0 → n.toNat ≤ s.out.u → ∃ t, exec (.exportWrite n) s = .next t ∧
      t = { s with
        answer := some (.accept []), status := { s.status with armed := false }
        out := { s.out with
          x := s.out.x + BitVec.ofNat 11 n.toNat, u := s.out.u - n.toNat, chanI := t.out.chanI
          chanP := t.out.chanP, lastActive := t.out.lastActive, record := t.out.record } } ∧
      (∀ c, (t.out.chan c).outcome = (s.out.chan c).outcome) ∧
      (∀ c, (s.out.chan c).state = .waitingExport →
        (t.out.chan c).state = .pending ∨ (t.out.chan c).state = .active) ∧
      (∀ c, (s.out.chan c).state = .waitingExport → t.out.active ≠ none))

/-- The 16 words of each kind of statement record: kind, flags, sequence number and figures at their places. A summary
figure is in kWh, rounded down, in 16 bits; a statement figure in 32 bits; either shows the nearer limit where it lies
beyond, and then SATURATED is set. A trailer's totals are 64 bits. A statement written again after an abandonment
carries the words it was formed with, but for word 1 (log entry 10). -/
def Obligations.RecordsCarryTheirLayouts : Prop :=
  ∀ s : State,
    (∀ (x : Summary) (rest : List Summary), s.out.holding = x :: rest →
      recordWords s .summary =
        [wordOf [(0, 2, 1), (2, 1, x.interval.partialFlag.toNat), (3, 1, x.interval.degraded.toNat),
          (4, 1, x.changesApplied.toNat),
          (5, 1, (([x.figures.heat, x.figures.cool].flatMap fun f => [f.plant, f.unitMetered, f.zoneMetered,
            f.distributed, f.carryAfter, f.estimated, f.corrections, f.writtenOff]).any fun v =>
              decide (v / 1000 < -32768 ∨ 32767 < v / 1000)).toNat),
          (6, 6, x.rejectedChanges), (16, 16, x.length.toNat)],
        s.out.seq, x.seq, x.interval.nominal, x.interval.actual,
        wordOf [(0, 16, x.tallies.taken.toNat), (16, 16, x.tallies.rejected.toNat)],
        wordOf [(0, 16, x.tallies.skewed.toNat), (16, 16, x.lost.toNat)],
        wordOf [(0, 16, x.estimates), (16, 16, x.stale)]] ++
        [x.figures.heat, x.figures.cool].flatMap fun f => [pair16 f.plant f.unitMetered,
          pair16 f.zoneMetered f.distributed, pair16 f.carryAfter f.estimated, pair16 f.corrections f.writtenOff]) ∧
    (∀ (u : UnitId) (x : Statement) (words : List Word), s.snapshots[u] = some x → x.formed = some words →
      recordWords s (.statement u) = words.set 1 s.out.seq) ∧
    (∀ (u : UnitId) (x : Statement), s.snapshots[u] = some x → x.formed = none →
      recordWords s (.statement u) =
        [wordOf [(0, 2, 2), (2, 1, x.final.toNat), (3, 1, x.mark.toNat),
          (4, 1, (([x.figures.heat, x.figures.cool].flatMap fun f =>
            [f.direct, f.zone, f.residual, f.estimated, f.cost]).any fun v =>
              decide (v < -2147483648 ∨ 2147483647 < v)).toNat),
          (5, 2, x.tariff.val), (8, 8, u.val), (16, 16, x.tenancy.toNat)],
        s.out.seq, wordOf [(0, 16, x.period.toNat)], x.openedAt, x.closing] ++
        ([x.figures.heat, x.figures.cool].flatMap fun f => [nearest32 f.direct, nearest32 f.zone,
          nearest32 f.residual, nearest32 f.estimated, nearest32 f.cost]) ++ [0]) ∧
    (∀ x : Trailer, s.period.trailer = some x →
      recordWords s .trailer =
        [wordOf [(0, 2, 3)], s.out.seq, wordOf [(0, 16, x.period.toNat), (16, 9, x.count)]] ++
        lowHigh x.cost.heat ++ lowHigh x.cost.cool ++ lowHigh x.energy.heat ++ lowHigh x.energy.cool ++
        [0, 0, 0, 0, 0])

/-- The engine never writes an unexported slot: while a channel is ACTIVE, slot W is not among them, and its bursts
go to slot W. -/
def Obligations.UnexportedSlotsAreNeverWritten : Prop :=
  ∀ (s : State) (c : Channel), WriteOutInv s → s.out.active = some c →
    ¬ Unexported s.out s.out.w ∧
    ∀ t, (accessFor s .writeOut = some (.firstBurst t) ∨ accessFor s .writeOut = some (.secondBurst t)) →
      ∃ off, At s t.addr off ∧ t.len = .w8 ∧
        (off = 0x20000 + 64 * s.out.w.toNat ∨ off = 0x20000 + 64 * s.out.w.toNat + 32)

/-- PERIOD_CLOSE, condition by condition. PERIOD_RESEND: NOTHING_HELD where channel P holds nothing; else DONE, and
an IDLE channel P restarts. -/
def Obligations.PeriodCommandsAreJudged : Prop :=
  ∀ s : State, UpstreamFree s →
    (∃ o, exec .periodClose s = .next { s with
        answer := some (.accept [])
        period := { s.period with pending := s.period.pending || o == CmdOutcome.done }
        status := { s.status with armed := false, command := { code := 4, outcome := o, detail := 0 } } } ∧
      (s.status.mode = .loading → o = .wrongMode) ∧
      (s.status.mode = .running → s.period.pending = true → o = .periodPending) ∧
      (s.status.mode = .running → s.period.pending = false →
        ((∃ (u : UnitId) (x : Statement), s.snapshots[u] = some x ∧ x.mark = true) ∨ s.period.trailer ≠ none) →
        o = .periodBusy) ∧
      (s.status.mode = .running → s.period.pending = false → s.period.trailer = none →
        (∀ (u : UnitId) (x : Statement), s.snapshots[u] = some x → x.mark = false) → o = .done)) ∧
    ((∀ u : UnitId, s.snapshots[u] = none) → s.period.trailer = none →
      exec .periodResend s = .next { s with
        answer := some (.accept [])
        status := { s.status with
          armed := false, command := { code := 5, outcome := .nothingHeld, detail := 0 } } }) ∧
    ((∃ u : UnitId, s.snapshots[u] ≠ none) ∨ s.period.trailer ≠ none →
      (s.out.chanP.state ≠ .idle → exec .periodResend s = .next { s with
        answer := some (.accept [])
        status := { s.status with
          armed := false, command := { code := 5, outcome := .done, detail := 0 } } }) ∧
      (s.out.chanP.state = .idle → ∃ t, exec .periodResend s = .next t ∧
        t = { s with
          answer := some (.accept [])
          out := { s.out with
            chanI := t.out.chanI, chanP := t.out.chanP, lastActive := t.out.lastActive, record := t.out.record }
          status := { s.status with
            armed := false, command := { code := 5, outcome := .done, detail := 0 }
            causes := t.status.causes } } ∧
        (∀ x, x ≠ .ringFull → t.causeSet x = s.causeSet x) ∧
        (s.out.u < 2048 → s.out.chanI.state = .active → t.out.chanP.state = .pending) ∧
        (s.out.u < 2048 → s.out.chanI.state ≠ .active → s.out.chanI.state ≠ .pending →
          t.out.chanP.state = .active) ∧
        (s.out.u = 2048 → t.out.chanP.state = .waitingExport ∧ t.causeSet .ringFull = true)))

/-! ## Status and call -/

/-- CAUSE_WRITE clears the causes written as ones; MASK_WRITE replaces the mask; CALL is asserted while a cause is
both set and enabled. -/
def Obligations.CauseAndMaskWritesMoveTheCallLine : Prop :=
  ∀ (s : State) (v : Word), UpstreamFree s →
    (∃ t, exec (.causeWrite v) s = .next t ∧
      t = { s with
        answer := some (.accept [])
        status := { s.status with armed := false, causes := t.status.causes } } ∧
      (∀ c, t.causeSet c = (s.causeSet c && !v.getLsbD c.bit)) ∧
      (t.call = true ↔ ∃ c : Cause, t.causeSet c = true ∧ t.status.mask.getLsbD c.bit = true)) ∧
    (∃ t, exec (.maskWrite v) s = .next t ∧
      t = { s with
        answer := some (.accept [])
        status := { s.status with armed := false, mask := v.setWidth 15 } } ∧
      (t.call = true ↔ ∃ c : Cause, s.causeSet c = true ∧ v.getLsbD c.bit = true))

/-- START, condition by condition; answered DONE it makes the mode RUNNING and fixes the first interval. -/
def Obligations.StartEntersRunning : Prop :=
  ∀ s : State, UpstreamFree s →
    (s.status.mode = .running → exec .start s = .next { s with
      answer := some (.accept [])
      status := { s.status with armed := false, command := { code := 1, outcome := .wrongMode, detail := 0 } } }) ∧
    (s.status.mode = .loading → s.clock.quality = .unset → exec .start s = .next { s with
      answer := some (.accept [])
      status := { s.status with armed := false, command := { code := 1, outcome := .timeUnset, detail := 0 } } }) ∧
    (∀ f, s.status.mode = .loading → s.clock.quality ≠ .unset → startFailure s.plan = some f →
      exec .start s = .next { s with
        answer := some (.accept [])
        status := { s.status with
          armed := false, command := { code := 1, outcome := f.1, detail := BitVec.ofNat 12 f.2 } } }) ∧
    (s.status.mode = .loading → s.clock.quality ≠ .unset → startFailure s.plan = none →
      ∃ t, exec .start s = .next t ∧
      t = { s with
        answer := some (.accept [])
        status := { s.status with
          mode := .running, armed := false, command := { code := 1, outcome := .done, detail := 0 } }
        clock := { s.clock with
          nextBoundary := t.clock.nextBoundary
          interval :=
            { nominal := BitVec.ofNat 32
                (s.clock.time.toNat / s.plan.header.len.seconds * s.plan.header.len.seconds)
              actual := s.clock.time, partialFlag := true, degraded := s.clock.quality == .degraded } } } ∧
      NextGridPoint s.plan.header.len.seconds s.clock.time t.clock.nextBoundary)

/-- START's plan check passes exactly the plans that meet the six conditions of R119; it fails with the lowest entry
number whose tests fail, and with the code of the first test that this entry fails. -/
def Obligations.StartChecksTheWholePlan : Prop :=
  ∀ p : Plan, (startFailure p = none ↔ PlanConsistent p) ∧
    ∀ (code : CmdOutcome) (n : Nat), startFailure p = some (code, n) ↔
      StartFails p n code ∧ ∀ (k : Nat) (other : CmdOutcome), k < n → ¬ StartFails p k other

/-- CLEAR_ARM sets the clear-arm flag. A CLEAR is judged by the flag, the close and LOCKED; not DONE it changes
nothing but the flag and the command record; DONE it returns the billing state to its initial values and keeps the
clock, the ring pointers, the buffer, the counts, the causes and the mask. The initial medium field of zone entries
30 and 31 is the model's choice (log entry 30). -/
def Obligations.ClearReturnsTheBillingState : Prop :=
  ∀ s : State, UpstreamFree s →
    exec .clearArm s = .next { s with
      answer := some (.accept [])
      status := { s.status with armed := true, command := { code := 2, outcome := .done, detail := 0 } } } ∧
    (∀ o, (s.status.armed = false ∧ o = CmdOutcome.wrongState) ∨
        (s.status.armed = true ∧ s.close ≠ none ∧ o = .busy) ∨
        (s.status.armed = true ∧ s.close = none ∧ s.locked = true ∧ o = .locked) →
      exec .clear s = .next { s with
        answer := some (.accept [])
        status := { s.status with armed := false, command := { code := 3, outcome := o, detail := 0 } } }) ∧
    (s.status.armed = true → s.close = none → s.locked = false → WriteOutInv s → ∃ t, exec .clear s = .next t ∧
      Cleared t ∧
      t = { s with
        answer := some (.accept [])
        status := { s.status with
          mode := .loading, armed := false, command := { code := 3, outcome := .done, detail := 0 } }
        plan := t.plan, live := t.live, accounts := t.accounts, snapshots := t.snapshots, occ := t.occ
        zoneWork := t.zoneWork, capture := { s.capture with queue := [], tallies := ⟨0, 0, 0⟩ }, changes := []
        rejection := { code := .none, entry := 0 }, period := { number := 0, pending := false, trailer := none }
        results := { applied := false, rejected := 0, writtenOff := ⟨0, 0⟩ }
        clock := { s.clock with
          seq := 0, nextBoundary := t.clock.nextBoundary
          adjust := if 2 * s.clock.adjust.natAbs ≤ 900 then s.clock.adjust else 0 }
        link := { s.link with port := t.link.port, reqWriteOut := t.link.reqWriteOut }
        out := { s.out with
          holding := [], record := none, chanI := t.out.chanI, chanP := t.out.chanP } } ∧
      NextGridPoint 900 s.clock.time t.clock.nextBoundary ∧
      (∀ m : MeterId, t.live[m] = MeterLive.initial) ∧
      (∀ z : ZoneId, t.zoneWork[z] = { carry := 0, pointer := 0 }) ∧
      (∀ c, t.out.chan c =
        { state := .idle
          outcome := if s.out.active = some c then .cancelled else (s.out.chan c).outcome }) ∧
      (∀ w, s.link.port = some (.firstBurst w) ∨ s.link.port = some (.secondBurst w) → s.out.active ≠ none →
        t.link.port = some (.disregarded (.write w))) ∧
      ((∀ w, s.link.port ≠ some (.firstBurst w) ∧ s.link.port ≠ some (.secondBurst w)) →
        t.link.port = s.link.port))

/-- COMMAND_BAD_CODE and UNIT_CMD_BAD_CODE: answered ACCEPT, recorded with BAD_ARGUMENT, with no other effect. -/
def Obligations.UnknownCodesAreBadArguments : Prop :=
  ∀ (s : State) (code a : BitVec 8) (u : UnitId), UpstreamFree s →
    (code ≠ 1 ∧ code ≠ 2 ∧ code ≠ 3 ∧ code ≠ 4 ∧ code ≠ 5 ∧ code ≠ 6 →
      exec (.commandBadCode code a) s = .next { s with
        answer := some (.accept [])
        status := { s.status with
          armed := false, command := { code := code, outcome := .badArgument, detail := 0 } } }) ∧
    (code ≠ 1 ∧ code ≠ 2 ∧ code ≠ 3 ∧ code ≠ 4 →
      exec (.unitCmdBadCode code u) s = .next { s with
        answer := some (.accept [])
        status := { s.status with
          armed := false, unitCommand := { code := code, slot := u, outcome := .badArgument } } })

/-! ## Unit occupancy -/

/-- OPEN: WRONG_STATE for slot 0 and a slot that is not VACANT, UNDEFINED_UNIT for an undefined slot in RUNNING, each
with no effect; else DONE: the tenancy number rises, and the slot becomes OPENING in RUNNING, waiting for its bound
meters, or OCCUPIED in LOADING. -/
def Obligations.OpenAdmitsATenant : Prop :=
  ∀ (s : State) (u : UnitId), UpstreamFree s → ∃ t o, exec (.openUnit u) s = .next t ∧
    o = (if u = 0 ∨ s.occ[u].state ≠ .vacant then CmdOutcome.wrongState
      else if s.status.mode = .running ∧ s.plan.units[u].area = 0 then .undefinedUnit else .done) ∧
    t = { s with
      answer := some (.accept []), occ := t.occ, live := t.live
      status := { s.status with
        armed := false, unitCommand := { code := 1, slot := u, outcome := o }
        causes := if o = .done ∧ s.status.mode = .loading
          then s.status.causes ||| Cause.unitChanged.mask else s.status.causes } } ∧
    (o ≠ .done → t.occ = s.occ ∧ t.live = s.live) ∧
    (o = .done →
      t.occ = s.occ.set u { s.occ[u] with
        tenancy := s.occ[u].tenancy + 1, closeCmdAt := 0, openedOnEstimate := false, finalsForced := false
        deadline := 0, cmdSinceBoundary := true
        state := if s.status.mode = .running then .opening else .occupied
        openedAt := if s.status.mode = .running then 0 else s.clock.time
        outstanding := if s.status.mode = .running then s.plan.boundCount u else 0 } ∧
      ∀ m : MeterId, t.live[m] =
        if s.plan.meters[m].kind = .unit ∧ s.plan.meters[m].binding = u
        then { s.live[m] with fresh := false } else s.live[m])

/-- CLOSE: an OCCUPIED slot becomes CLOSING in RUNNING and VACANT in LOADING, an OPENING slot VACANT; any other, and
slot 0, is WRONG_STATE with no effect. -/
def Obligations.CloseEndsATenancy : Prop :=
  ∀ (s : State) (u : UnitId), UpstreamFree s → ∃ t o, exec (.closeUnit u) s = .next t ∧
    o = (if u ≠ 0 ∧ (s.occ[u].state = .occupied ∨ (s.status.mode = .running ∧ s.occ[u].state = .opening))
      then CmdOutcome.done else .wrongState) ∧
    t = { s with
      answer := some (.accept []), occ := t.occ, live := t.live
      status := { s.status with
        armed := false, unitCommand := { code := 2, slot := u, outcome := o }
        causes := if o = .done ∧ ¬ (s.status.mode = .running ∧ s.occ[u].state = .occupied)
          then s.status.causes ||| Cause.unitChanged.mask else s.status.causes } } ∧
    (o ≠ .done → t.occ = s.occ ∧ t.live = s.live) ∧
    (o = .done →
      t.occ = s.occ.set u (if s.status.mode = .running ∧ s.occ[u].state = .occupied
        then { s.occ[u] with
          state := .closing, closeCmdAt := s.clock.time, deadline := 0, finalsForced := false
          outstanding := s.plan.boundCount u, cmdSinceBoundary := true }
        else { s.occ[u] with
          state := .vacant, closeCmdAt := s.clock.time, deadline := 0, outstanding := 0
          cmdSinceBoundary := true }) ∧
      ∀ m : MeterId, t.live[m] =
        if s.plan.meters[m].kind = .unit ∧ s.plan.meters[m].binding = u
        then { s.live[m] with fresh := false } else s.live[m])

/-- FORCE sets the finals-forced flag of a CLOSING slot in RUNNING, and changes nothing else; CANCEL returns such a
slot to OCCUPIED; for any other slot each is WRONG_STATE. -/
def Obligations.ForceAndCancelActOnAClosingSlot : Prop :=
  ∀ (s : State) (u : UnitId), UpstreamFree s →
    (u ≠ 0 → s.status.mode = .running → s.occ[u].state = .closing →
      exec (.forceUnit u) s = .next { s with
        answer := some (.accept []), occ := s.occ.set u { s.occ[u] with finalsForced := true }
        status := { s.status with
          armed := false, unitCommand := { code := 3, slot := u, outcome := .done } } }) ∧
    (¬ (u ≠ 0 ∧ s.status.mode = .running ∧ s.occ[u].state = .closing) →
      exec (.forceUnit u) s = .next { s with
        answer := some (.accept [])
        status := { s.status with
          armed := false, unitCommand := { code := 3, slot := u, outcome := .wrongState } } }) ∧
    (u ≠ 0 → s.status.mode = .running → s.occ[u].state = .closing → ∃ t, exec (.cancelUnit u) s = .next t ∧
      t = { s with
        answer := some (.accept []), live := t.live
        occ := s.occ.set u { s.occ[u] with
          state := .occupied, closeCmdAt := 0, deadline := 0, outstanding := 0, finalsForced := false
          cmdSinceBoundary := true }
        status := { s.status with
          armed := false, unitCommand := { code := 4, slot := u, outcome := .done }
          causes := s.status.causes ||| Cause.unitChanged.mask } } ∧
      ∀ m : MeterId, t.live[m] =
        if s.plan.meters[m].kind = .unit ∧ s.plan.meters[m].binding = u
        then { s.live[m] with fresh := false } else s.live[m]) ∧
    (¬ (u ≠ 0 ∧ s.status.mode = .running ∧ s.occ[u].state = .closing) →
      exec (.cancelUnit u) s = .next { s with
        answer := some (.accept [])
        status := { s.status with
          armed := false, unitCommand := { code := 4, slot := u, outcome := .wrongState } } })

/-! ## Formats -/

/-- Every plan entry with its fields in their accepted values is read back from its 16 bytes as it was, and the
field checks pass no other bytes. -/
def Obligations.PlanEntriesAndTheirBytesAgree : Prop :=
  (∀ e : PlanEntry, e.inRange → decodeEntry e.id.number (encodeEntry e) = some e) ∧
    ∀ (n : Nat) (q : Quad) (e : PlanEntry), decodeEntry n q = some e →
      e.id.number = n ∧ encodeEntry e = q ∧ e.inRange
end

