-- ==== Sys2Proof/Laws/State.lean ====
section
/-! SUPPORT. One lemma for each field and each of the small updates of State: what the field is afterwards, so that no
proof unfolds a record update. -/

namespace Sys2Proof.Machine

/-! ### raise -/
@[simp] theorem raise_pins (c : Cause) (s : State) : (raise c s).pins = s.pins := rfl
@[simp] theorem raise_link (c : Cause) (s : State) : (raise c s).link = s.link := rfl
@[simp] theorem raise_capture (c : Cause) (s : State) : (raise c s).capture = s.capture := rfl
@[simp] theorem raise_plan (c : Cause) (s : State) : (raise c s).plan = s.plan := rfl
@[simp] theorem raise_changes (c : Cause) (s : State) : (raise c s).changes = s.changes := rfl
@[simp] theorem raise_rejection (c : Cause) (s : State) : (raise c s).rejection = s.rejection := rfl
@[simp] theorem raise_live (c : Cause) (s : State) : (raise c s).live = s.live := rfl
@[simp] theorem raise_zoneWork (c : Cause) (s : State) : (raise c s).zoneWork = s.zoneWork := rfl
@[simp] theorem raise_accounts (c : Cause) (s : State) : (raise c s).accounts = s.accounts := rfl
@[simp] theorem raise_snapshots (c : Cause) (s : State) : (raise c s).snapshots = s.snapshots := rfl
@[simp] theorem raise_period (c : Cause) (s : State) : (raise c s).period = s.period := rfl
@[simp] theorem raise_results (c : Cause) (s : State) : (raise c s).results = s.results := rfl
@[simp] theorem raise_close (c : Cause) (s : State) : (raise c s).close = s.close := rfl
@[simp] theorem raise_occ (c : Cause) (s : State) : (raise c s).occ = s.occ := rfl
@[simp] theorem raise_out (c : Cause) (s : State) : (raise c s).out = s.out := rfl
@[simp] theorem raise_clock (c : Cause) (s : State) : (raise c s).clock = s.clock := rfl
@[simp] theorem raise_status (c : Cause) (s : State) : (raise c s).status = { s.status with causes := s.status.causes ||| c.mask } := rfl
@[simp] theorem raise_answer (c : Cause) (s : State) : (raise c s).answer = s.answer := rfl
@[simp] theorem raise_idle (c : Cause) (s : State) : (raise c s).idle = s.idle := rfl
@[simp] theorem raise_pending (c : Cause) (s : State) : (raise c s).pending = s.pending := rfl

/-! ### respond -/
@[simp] theorem respond_pins (r : Response) (s : State) : (respond r s).pins = s.pins := rfl
@[simp] theorem respond_link (r : Response) (s : State) : (respond r s).link = s.link := rfl
@[simp] theorem respond_capture (r : Response) (s : State) : (respond r s).capture = s.capture := rfl
@[simp] theorem respond_plan (r : Response) (s : State) : (respond r s).plan = s.plan := rfl
@[simp] theorem respond_changes (r : Response) (s : State) : (respond r s).changes = s.changes := rfl
@[simp] theorem respond_rejection (r : Response) (s : State) : (respond r s).rejection = s.rejection := rfl
@[simp] theorem respond_live (r : Response) (s : State) : (respond r s).live = s.live := rfl
@[simp] theorem respond_zoneWork (r : Response) (s : State) : (respond r s).zoneWork = s.zoneWork := rfl
@[simp] theorem respond_accounts (r : Response) (s : State) : (respond r s).accounts = s.accounts := rfl
@[simp] theorem respond_snapshots (r : Response) (s : State) : (respond r s).snapshots = s.snapshots := rfl
@[simp] theorem respond_period (r : Response) (s : State) : (respond r s).period = s.period := rfl
@[simp] theorem respond_results (r : Response) (s : State) : (respond r s).results = s.results := rfl
@[simp] theorem respond_close (r : Response) (s : State) : (respond r s).close = s.close := rfl
@[simp] theorem respond_occ (r : Response) (s : State) : (respond r s).occ = s.occ := rfl
@[simp] theorem respond_out (r : Response) (s : State) : (respond r s).out = s.out := rfl
@[simp] theorem respond_clock (r : Response) (s : State) : (respond r s).clock = s.clock := rfl
@[simp] theorem respond_status (r : Response) (s : State) : (respond r s).status = s.status := rfl
@[simp] theorem respond_answer (r : Response) (s : State) : (respond r s).answer = some r := rfl
@[simp] theorem respond_idle (r : Response) (s : State) : (respond r s).idle = s.idle := rfl
@[simp] theorem respond_pending (r : Response) (s : State) : (respond r s).pending = s.pending := rfl

/-! ### acceptWrite -/
@[simp] theorem acceptWrite_pins (s : State) : (acceptWrite s).pins = s.pins := rfl
@[simp] theorem acceptWrite_link (s : State) : (acceptWrite s).link = s.link := rfl
@[simp] theorem acceptWrite_capture (s : State) : (acceptWrite s).capture = s.capture := rfl
@[simp] theorem acceptWrite_plan (s : State) : (acceptWrite s).plan = s.plan := rfl
@[simp] theorem acceptWrite_changes (s : State) : (acceptWrite s).changes = s.changes := rfl
@[simp] theorem acceptWrite_rejection (s : State) : (acceptWrite s).rejection = s.rejection := rfl
@[simp] theorem acceptWrite_live (s : State) : (acceptWrite s).live = s.live := rfl
@[simp] theorem acceptWrite_zoneWork (s : State) : (acceptWrite s).zoneWork = s.zoneWork := rfl
@[simp] theorem acceptWrite_accounts (s : State) : (acceptWrite s).accounts = s.accounts := rfl
@[simp] theorem acceptWrite_snapshots (s : State) : (acceptWrite s).snapshots = s.snapshots := rfl
@[simp] theorem acceptWrite_period (s : State) : (acceptWrite s).period = s.period := rfl
@[simp] theorem acceptWrite_results (s : State) : (acceptWrite s).results = s.results := rfl
@[simp] theorem acceptWrite_close (s : State) : (acceptWrite s).close = s.close := rfl
@[simp] theorem acceptWrite_occ (s : State) : (acceptWrite s).occ = s.occ := rfl
@[simp] theorem acceptWrite_out (s : State) : (acceptWrite s).out = s.out := rfl
@[simp] theorem acceptWrite_clock (s : State) : (acceptWrite s).clock = s.clock := rfl
@[simp] theorem acceptWrite_status (s : State) : (acceptWrite s).status = s.status := rfl
@[simp] theorem acceptWrite_answer (s : State) : (acceptWrite s).answer = some (.accept []) := rfl
@[simp] theorem acceptWrite_idle (s : State) : (acceptWrite s).idle = s.idle := rfl
@[simp] theorem acceptWrite_pending (s : State) : (acceptWrite s).pending = s.pending := rfl

/-! ### disarm -/
@[simp] theorem disarm_pins (s : State) : (disarm s).pins = s.pins := rfl
@[simp] theorem disarm_link (s : State) : (disarm s).link = s.link := rfl
@[simp] theorem disarm_capture (s : State) : (disarm s).capture = s.capture := rfl
@[simp] theorem disarm_plan (s : State) : (disarm s).plan = s.plan := rfl
@[simp] theorem disarm_changes (s : State) : (disarm s).changes = s.changes := rfl
@[simp] theorem disarm_rejection (s : State) : (disarm s).rejection = s.rejection := rfl
@[simp] theorem disarm_live (s : State) : (disarm s).live = s.live := rfl
@[simp] theorem disarm_zoneWork (s : State) : (disarm s).zoneWork = s.zoneWork := rfl
@[simp] theorem disarm_accounts (s : State) : (disarm s).accounts = s.accounts := rfl
@[simp] theorem disarm_snapshots (s : State) : (disarm s).snapshots = s.snapshots := rfl
@[simp] theorem disarm_period (s : State) : (disarm s).period = s.period := rfl
@[simp] theorem disarm_results (s : State) : (disarm s).results = s.results := rfl
@[simp] theorem disarm_close (s : State) : (disarm s).close = s.close := rfl
@[simp] theorem disarm_occ (s : State) : (disarm s).occ = s.occ := rfl
@[simp] theorem disarm_out (s : State) : (disarm s).out = s.out := rfl
@[simp] theorem disarm_clock (s : State) : (disarm s).clock = s.clock := rfl
@[simp] theorem disarm_status (s : State) : (disarm s).status = { s.status with armed := false } := rfl
@[simp] theorem disarm_answer (s : State) : (disarm s).answer = s.answer := rfl
@[simp] theorem disarm_idle (s : State) : (disarm s).idle = s.idle := rfl
@[simp] theorem disarm_pending (s : State) : (disarm s).pending = s.pending := rfl

/-! ### setOcc -/
@[simp] theorem setOcc_pins (u : UnitId) (r : OccRecord) (s : State) : (setOcc u r s).pins = s.pins := rfl
@[simp] theorem setOcc_link (u : UnitId) (r : OccRecord) (s : State) : (setOcc u r s).link = s.link := rfl
@[simp] theorem setOcc_capture (u : UnitId) (r : OccRecord) (s : State) : (setOcc u r s).capture = s.capture := rfl
@[simp] theorem setOcc_plan (u : UnitId) (r : OccRecord) (s : State) : (setOcc u r s).plan = s.plan := rfl
@[simp] theorem setOcc_changes (u : UnitId) (r : OccRecord) (s : State) : (setOcc u r s).changes = s.changes := rfl
@[simp] theorem setOcc_rejection (u : UnitId) (r : OccRecord) (s : State) : (setOcc u r s).rejection = s.rejection := rfl
@[simp] theorem setOcc_live (u : UnitId) (r : OccRecord) (s : State) : (setOcc u r s).live = s.live := rfl
@[simp] theorem setOcc_zoneWork (u : UnitId) (r : OccRecord) (s : State) : (setOcc u r s).zoneWork = s.zoneWork := rfl
@[simp] theorem setOcc_accounts (u : UnitId) (r : OccRecord) (s : State) : (setOcc u r s).accounts = s.accounts := rfl
@[simp] theorem setOcc_snapshots (u : UnitId) (r : OccRecord) (s : State) : (setOcc u r s).snapshots = s.snapshots := rfl
@[simp] theorem setOcc_period (u : UnitId) (r : OccRecord) (s : State) : (setOcc u r s).period = s.period := rfl
@[simp] theorem setOcc_results (u : UnitId) (r : OccRecord) (s : State) : (setOcc u r s).results = s.results := rfl
@[simp] theorem setOcc_close (u : UnitId) (r : OccRecord) (s : State) : (setOcc u r s).close = s.close := rfl
@[simp] theorem setOcc_occ (u : UnitId) (r : OccRecord) (s : State) : (setOcc u r s).occ = s.occ.set u r := rfl
@[simp] theorem setOcc_out (u : UnitId) (r : OccRecord) (s : State) : (setOcc u r s).out = s.out := rfl
@[simp] theorem setOcc_clock (u : UnitId) (r : OccRecord) (s : State) : (setOcc u r s).clock = s.clock := rfl
@[simp] theorem setOcc_status (u : UnitId) (r : OccRecord) (s : State) : (setOcc u r s).status = s.status := rfl
@[simp] theorem setOcc_answer (u : UnitId) (r : OccRecord) (s : State) : (setOcc u r s).answer = s.answer := rfl
@[simp] theorem setOcc_idle (u : UnitId) (r : OccRecord) (s : State) : (setOcc u r s).idle = s.idle := rfl
@[simp] theorem setOcc_pending (u : UnitId) (r : OccRecord) (s : State) : (setOcc u r s).pending = s.pending := rfl

/-! ### setLive -/
@[simp] theorem setLive_pins (m : MeterId) (l : MeterLive) (s : State) : (setLive m l s).pins = s.pins := rfl
@[simp] theorem setLive_link (m : MeterId) (l : MeterLive) (s : State) : (setLive m l s).link = s.link := rfl
@[simp] theorem setLive_capture (m : MeterId) (l : MeterLive) (s : State) : (setLive m l s).capture = s.capture := rfl
@[simp] theorem setLive_plan (m : MeterId) (l : MeterLive) (s : State) : (setLive m l s).plan = s.plan := rfl
@[simp] theorem setLive_changes (m : MeterId) (l : MeterLive) (s : State) : (setLive m l s).changes = s.changes := rfl
@[simp] theorem setLive_rejection (m : MeterId) (l : MeterLive) (s : State) : (setLive m l s).rejection = s.rejection := rfl
@[simp] theorem setLive_live (m : MeterId) (l : MeterLive) (s : State) : (setLive m l s).live = s.live.set m l := rfl
@[simp] theorem setLive_zoneWork (m : MeterId) (l : MeterLive) (s : State) : (setLive m l s).zoneWork = s.zoneWork := rfl
@[simp] theorem setLive_accounts (m : MeterId) (l : MeterLive) (s : State) : (setLive m l s).accounts = s.accounts := rfl
@[simp] theorem setLive_snapshots (m : MeterId) (l : MeterLive) (s : State) : (setLive m l s).snapshots = s.snapshots := rfl
@[simp] theorem setLive_period (m : MeterId) (l : MeterLive) (s : State) : (setLive m l s).period = s.period := rfl
@[simp] theorem setLive_results (m : MeterId) (l : MeterLive) (s : State) : (setLive m l s).results = s.results := rfl
@[simp] theorem setLive_close (m : MeterId) (l : MeterLive) (s : State) : (setLive m l s).close = s.close := rfl
@[simp] theorem setLive_occ (m : MeterId) (l : MeterLive) (s : State) : (setLive m l s).occ = s.occ := rfl
@[simp] theorem setLive_out (m : MeterId) (l : MeterLive) (s : State) : (setLive m l s).out = s.out := rfl
@[simp] theorem setLive_clock (m : MeterId) (l : MeterLive) (s : State) : (setLive m l s).clock = s.clock := rfl
@[simp] theorem setLive_status (m : MeterId) (l : MeterLive) (s : State) : (setLive m l s).status = s.status := rfl
@[simp] theorem setLive_answer (m : MeterId) (l : MeterLive) (s : State) : (setLive m l s).answer = s.answer := rfl
@[simp] theorem setLive_idle (m : MeterId) (l : MeterLive) (s : State) : (setLive m l s).idle = s.idle := rfl
@[simp] theorem setLive_pending (m : MeterId) (l : MeterLive) (s : State) : (setLive m l s).pending = s.pending := rfl

/-! ### clearFresh -/
@[simp] theorem clearFresh_pins (u : UnitId) (s : State) : (clearFresh u s).pins = s.pins := by simp only [clearFresh]
@[simp] theorem clearFresh_link (u : UnitId) (s : State) : (clearFresh u s).link = s.link := by simp only [clearFresh]
@[simp] theorem clearFresh_capture (u : UnitId) (s : State) : (clearFresh u s).capture = s.capture := by simp only [clearFresh]
@[simp] theorem clearFresh_plan (u : UnitId) (s : State) : (clearFresh u s).plan = s.plan := by simp only [clearFresh]
@[simp] theorem clearFresh_changes (u : UnitId) (s : State) : (clearFresh u s).changes = s.changes := by simp only [clearFresh]
@[simp] theorem clearFresh_rejection (u : UnitId) (s : State) : (clearFresh u s).rejection = s.rejection := by simp only [clearFresh]
@[simp] theorem clearFresh_zoneWork (u : UnitId) (s : State) : (clearFresh u s).zoneWork = s.zoneWork := by simp only [clearFresh]
@[simp] theorem clearFresh_accounts (u : UnitId) (s : State) : (clearFresh u s).accounts = s.accounts := by simp only [clearFresh]
@[simp] theorem clearFresh_snapshots (u : UnitId) (s : State) : (clearFresh u s).snapshots = s.snapshots := by simp only [clearFresh]
@[simp] theorem clearFresh_period (u : UnitId) (s : State) : (clearFresh u s).period = s.period := by simp only [clearFresh]
@[simp] theorem clearFresh_results (u : UnitId) (s : State) : (clearFresh u s).results = s.results := by simp only [clearFresh]
@[simp] theorem clearFresh_close (u : UnitId) (s : State) : (clearFresh u s).close = s.close := by simp only [clearFresh]
@[simp] theorem clearFresh_occ (u : UnitId) (s : State) : (clearFresh u s).occ = s.occ := by simp only [clearFresh]
@[simp] theorem clearFresh_out (u : UnitId) (s : State) : (clearFresh u s).out = s.out := by simp only [clearFresh]
@[simp] theorem clearFresh_clock (u : UnitId) (s : State) : (clearFresh u s).clock = s.clock := by simp only [clearFresh]
@[simp] theorem clearFresh_status (u : UnitId) (s : State) : (clearFresh u s).status = s.status := by simp only [clearFresh]
@[simp] theorem clearFresh_answer (u : UnitId) (s : State) : (clearFresh u s).answer = s.answer := by simp only [clearFresh]
@[simp] theorem clearFresh_idle (u : UnitId) (s : State) : (clearFresh u s).idle = s.idle := by simp only [clearFresh]
@[simp] theorem clearFresh_pending (u : UnitId) (s : State) : (clearFresh u s).pending = s.pending := by simp only [clearFresh]

/-! ### setChanState -/
@[simp] theorem setChanState_pins (c : Channel) (x : ChannelState) (s : State) : (setChanState c x s).pins = s.pins := rfl
@[simp] theorem setChanState_link (c : Channel) (x : ChannelState) (s : State) : (setChanState c x s).link = s.link := rfl
@[simp] theorem setChanState_capture (c : Channel) (x : ChannelState) (s : State) : (setChanState c x s).capture = s.capture := rfl
@[simp] theorem setChanState_plan (c : Channel) (x : ChannelState) (s : State) : (setChanState c x s).plan = s.plan := rfl
@[simp] theorem setChanState_changes (c : Channel) (x : ChannelState) (s : State) : (setChanState c x s).changes = s.changes := rfl
@[simp] theorem setChanState_rejection (c : Channel) (x : ChannelState) (s : State) : (setChanState c x s).rejection = s.rejection := rfl
@[simp] theorem setChanState_live (c : Channel) (x : ChannelState) (s : State) : (setChanState c x s).live = s.live := rfl
@[simp] theorem setChanState_zoneWork (c : Channel) (x : ChannelState) (s : State) : (setChanState c x s).zoneWork = s.zoneWork := rfl
@[simp] theorem setChanState_accounts (c : Channel) (x : ChannelState) (s : State) : (setChanState c x s).accounts = s.accounts := rfl
@[simp] theorem setChanState_snapshots (c : Channel) (x : ChannelState) (s : State) : (setChanState c x s).snapshots = s.snapshots := rfl
@[simp] theorem setChanState_period (c : Channel) (x : ChannelState) (s : State) : (setChanState c x s).period = s.period := rfl
@[simp] theorem setChanState_results (c : Channel) (x : ChannelState) (s : State) : (setChanState c x s).results = s.results := rfl
@[simp] theorem setChanState_close (c : Channel) (x : ChannelState) (s : State) : (setChanState c x s).close = s.close := rfl
@[simp] theorem setChanState_occ (c : Channel) (x : ChannelState) (s : State) : (setChanState c x s).occ = s.occ := rfl
@[simp] theorem setChanState_out (c : Channel) (x : ChannelState) (s : State) : (setChanState c x s).out = s.out.setChan c { s.out.chan c with state := x } := rfl
@[simp] theorem setChanState_clock (c : Channel) (x : ChannelState) (s : State) : (setChanState c x s).clock = s.clock := rfl
@[simp] theorem setChanState_status (c : Channel) (x : ChannelState) (s : State) : (setChanState c x s).status = s.status := rfl
@[simp] theorem setChanState_answer (c : Channel) (x : ChannelState) (s : State) : (setChanState c x s).answer = s.answer := rfl
@[simp] theorem setChanState_idle (c : Channel) (x : ChannelState) (s : State) : (setChanState c x s).idle = s.idle := rfl
@[simp] theorem setChanState_pending (c : Channel) (x : ChannelState) (s : State) : (setChanState c x s).pending = s.pending := rfl

/-! ### freePort -/
@[simp] theorem freePort_pins (s : State) : (freePort s).pins = s.pins := rfl
@[simp] theorem freePort_link (s : State) : (freePort s).link = { s.link with port := none } := rfl
@[simp] theorem freePort_capture (s : State) : (freePort s).capture = s.capture := rfl
@[simp] theorem freePort_plan (s : State) : (freePort s).plan = s.plan := rfl
@[simp] theorem freePort_changes (s : State) : (freePort s).changes = s.changes := rfl
@[simp] theorem freePort_rejection (s : State) : (freePort s).rejection = s.rejection := rfl
@[simp] theorem freePort_live (s : State) : (freePort s).live = s.live := rfl
@[simp] theorem freePort_zoneWork (s : State) : (freePort s).zoneWork = s.zoneWork := rfl
@[simp] theorem freePort_accounts (s : State) : (freePort s).accounts = s.accounts := rfl
@[simp] theorem freePort_snapshots (s : State) : (freePort s).snapshots = s.snapshots := rfl
@[simp] theorem freePort_period (s : State) : (freePort s).period = s.period := rfl
@[simp] theorem freePort_results (s : State) : (freePort s).results = s.results := rfl
@[simp] theorem freePort_close (s : State) : (freePort s).close = s.close := rfl
@[simp] theorem freePort_occ (s : State) : (freePort s).occ = s.occ := rfl
@[simp] theorem freePort_out (s : State) : (freePort s).out = s.out := rfl
@[simp] theorem freePort_clock (s : State) : (freePort s).clock = s.clock := rfl
@[simp] theorem freePort_status (s : State) : (freePort s).status = s.status := rfl
@[simp] theorem freePort_answer (s : State) : (freePort s).answer = s.answer := rfl
@[simp] theorem freePort_idle (s : State) : (freePort s).idle = s.idle := rfl
@[simp] theorem freePort_pending (s : State) : (freePort s).pending = s.pending := rfl

/-! ### requestRead -/
@[simp] theorem requestRead_pins (s : State) : (requestRead s).pins = s.pins := rfl
@[simp] theorem requestRead_link (s : State) : (requestRead s).link = { s.link with reqRead := true } := rfl
@[simp] theorem requestRead_capture (s : State) : (requestRead s).capture = s.capture := rfl
@[simp] theorem requestRead_plan (s : State) : (requestRead s).plan = s.plan := rfl
@[simp] theorem requestRead_changes (s : State) : (requestRead s).changes = s.changes := rfl
@[simp] theorem requestRead_rejection (s : State) : (requestRead s).rejection = s.rejection := rfl
@[simp] theorem requestRead_live (s : State) : (requestRead s).live = s.live := rfl
@[simp] theorem requestRead_zoneWork (s : State) : (requestRead s).zoneWork = s.zoneWork := rfl
@[simp] theorem requestRead_accounts (s : State) : (requestRead s).accounts = s.accounts := rfl
@[simp] theorem requestRead_snapshots (s : State) : (requestRead s).snapshots = s.snapshots := rfl
@[simp] theorem requestRead_period (s : State) : (requestRead s).period = s.period := rfl
@[simp] theorem requestRead_results (s : State) : (requestRead s).results = s.results := rfl
@[simp] theorem requestRead_close (s : State) : (requestRead s).close = s.close := rfl
@[simp] theorem requestRead_occ (s : State) : (requestRead s).occ = s.occ := rfl
@[simp] theorem requestRead_out (s : State) : (requestRead s).out = s.out := rfl
@[simp] theorem requestRead_clock (s : State) : (requestRead s).clock = s.clock := rfl
@[simp] theorem requestRead_status (s : State) : (requestRead s).status = s.status := rfl
@[simp] theorem requestRead_answer (s : State) : (requestRead s).answer = s.answer := rfl
@[simp] theorem requestRead_idle (s : State) : (requestRead s).idle = s.idle := rfl
@[simp] theorem requestRead_pending (s : State) : (requestRead s).pending = s.pending := rfl

/-! ### requestWriteOut -/
@[simp] theorem requestWriteOut_pins (s : State) : (requestWriteOut s).pins = s.pins := rfl
@[simp] theorem requestWriteOut_link (s : State) : (requestWriteOut s).link = { s.link with reqWriteOut := true } := rfl
@[simp] theorem requestWriteOut_capture (s : State) : (requestWriteOut s).capture = s.capture := rfl
@[simp] theorem requestWriteOut_plan (s : State) : (requestWriteOut s).plan = s.plan := rfl
@[simp] theorem requestWriteOut_changes (s : State) : (requestWriteOut s).changes = s.changes := rfl
@[simp] theorem requestWriteOut_rejection (s : State) : (requestWriteOut s).rejection = s.rejection := rfl
@[simp] theorem requestWriteOut_live (s : State) : (requestWriteOut s).live = s.live := rfl
@[simp] theorem requestWriteOut_zoneWork (s : State) : (requestWriteOut s).zoneWork = s.zoneWork := rfl
@[simp] theorem requestWriteOut_accounts (s : State) : (requestWriteOut s).accounts = s.accounts := rfl
@[simp] theorem requestWriteOut_snapshots (s : State) : (requestWriteOut s).snapshots = s.snapshots := rfl
@[simp] theorem requestWriteOut_period (s : State) : (requestWriteOut s).period = s.period := rfl
@[simp] theorem requestWriteOut_results (s : State) : (requestWriteOut s).results = s.results := rfl
@[simp] theorem requestWriteOut_close (s : State) : (requestWriteOut s).close = s.close := rfl
@[simp] theorem requestWriteOut_occ (s : State) : (requestWriteOut s).occ = s.occ := rfl
@[simp] theorem requestWriteOut_out (s : State) : (requestWriteOut s).out = s.out := rfl
@[simp] theorem requestWriteOut_clock (s : State) : (requestWriteOut s).clock = s.clock := rfl
@[simp] theorem requestWriteOut_status (s : State) : (requestWriteOut s).status = s.status := rfl
@[simp] theorem requestWriteOut_answer (s : State) : (requestWriteOut s).answer = s.answer := rfl
@[simp] theorem requestWriteOut_idle (s : State) : (requestWriteOut s).idle = s.idle := rfl
@[simp] theorem requestWriteOut_pending (s : State) : (requestWriteOut s).pending = s.pending := rfl

/-! ### setBrst -/
@[simp] theorem setBrst_pins (level : Bool) (s : State) : (setBrst level s).pins = { s.pins with brst := level } := rfl
@[simp] theorem setBrst_link (level : Bool) (s : State) : (setBrst level s).link = s.link := rfl
@[simp] theorem setBrst_capture (level : Bool) (s : State) : (setBrst level s).capture = s.capture := rfl
@[simp] theorem setBrst_plan (level : Bool) (s : State) : (setBrst level s).plan = s.plan := rfl
@[simp] theorem setBrst_changes (level : Bool) (s : State) : (setBrst level s).changes = s.changes := rfl
@[simp] theorem setBrst_rejection (level : Bool) (s : State) : (setBrst level s).rejection = s.rejection := rfl
@[simp] theorem setBrst_live (level : Bool) (s : State) : (setBrst level s).live = s.live := rfl
@[simp] theorem setBrst_zoneWork (level : Bool) (s : State) : (setBrst level s).zoneWork = s.zoneWork := rfl
@[simp] theorem setBrst_accounts (level : Bool) (s : State) : (setBrst level s).accounts = s.accounts := rfl
@[simp] theorem setBrst_snapshots (level : Bool) (s : State) : (setBrst level s).snapshots = s.snapshots := rfl
@[simp] theorem setBrst_period (level : Bool) (s : State) : (setBrst level s).period = s.period := rfl
@[simp] theorem setBrst_results (level : Bool) (s : State) : (setBrst level s).results = s.results := rfl
@[simp] theorem setBrst_close (level : Bool) (s : State) : (setBrst level s).close = s.close := rfl
@[simp] theorem setBrst_occ (level : Bool) (s : State) : (setBrst level s).occ = s.occ := rfl
@[simp] theorem setBrst_out (level : Bool) (s : State) : (setBrst level s).out = s.out := rfl
@[simp] theorem setBrst_clock (level : Bool) (s : State) : (setBrst level s).clock = s.clock := rfl
@[simp] theorem setBrst_status (level : Bool) (s : State) : (setBrst level s).status = s.status := rfl
@[simp] theorem setBrst_answer (level : Bool) (s : State) : (setBrst level s).answer = s.answer := rfl
@[simp] theorem setBrst_idle (level : Bool) (s : State) : (setBrst level s).idle = s.idle := rfl
@[simp] theorem setBrst_pending (level : Bool) (s : State) : (setBrst level s).pending = s.pending := rfl

/-! ### advanceRecord -/
@[simp] theorem advanceRecord_pins (st : RecordStep) (s : State) : (advanceRecord st s).pins = s.pins := rfl
@[simp] theorem advanceRecord_link (st : RecordStep) (s : State) : (advanceRecord st s).link = s.link := rfl
@[simp] theorem advanceRecord_capture (st : RecordStep) (s : State) : (advanceRecord st s).capture = s.capture := rfl
@[simp] theorem advanceRecord_plan (st : RecordStep) (s : State) : (advanceRecord st s).plan = s.plan := rfl
@[simp] theorem advanceRecord_changes (st : RecordStep) (s : State) : (advanceRecord st s).changes = s.changes := rfl
@[simp] theorem advanceRecord_rejection (st : RecordStep) (s : State) : (advanceRecord st s).rejection = s.rejection := rfl
@[simp] theorem advanceRecord_live (st : RecordStep) (s : State) : (advanceRecord st s).live = s.live := rfl
@[simp] theorem advanceRecord_zoneWork (st : RecordStep) (s : State) : (advanceRecord st s).zoneWork = s.zoneWork := rfl
@[simp] theorem advanceRecord_accounts (st : RecordStep) (s : State) : (advanceRecord st s).accounts = s.accounts := rfl
@[simp] theorem advanceRecord_snapshots (st : RecordStep) (s : State) : (advanceRecord st s).snapshots = s.snapshots := rfl
@[simp] theorem advanceRecord_period (st : RecordStep) (s : State) : (advanceRecord st s).period = s.period := rfl
@[simp] theorem advanceRecord_results (st : RecordStep) (s : State) : (advanceRecord st s).results = s.results := rfl
@[simp] theorem advanceRecord_close (st : RecordStep) (s : State) : (advanceRecord st s).close = s.close := rfl
@[simp] theorem advanceRecord_occ (st : RecordStep) (s : State) : (advanceRecord st s).occ = s.occ := rfl
@[simp] theorem advanceRecord_out (st : RecordStep) (s : State) : (advanceRecord st s).out = { s.out with record := s.out.record.map fun r => { r with step := st } } := rfl
@[simp] theorem advanceRecord_clock (st : RecordStep) (s : State) : (advanceRecord st s).clock = s.clock := rfl
@[simp] theorem advanceRecord_status (st : RecordStep) (s : State) : (advanceRecord st s).status = s.status := rfl
@[simp] theorem advanceRecord_answer (st : RecordStep) (s : State) : (advanceRecord st s).answer = s.answer := rfl
@[simp] theorem advanceRecord_idle (st : RecordStep) (s : State) : (advanceRecord st s).idle = s.idle := rfl
@[simp] theorem advanceRecord_pending (st : RecordStep) (s : State) : (advanceRecord st s).pending = s.pending := rfl

end Sys2Proof.Machine
end

