-- ==== Sys2Proof/Laws/Frames.lean ====
section
/-! SUPPORT. What each shared operation can change at all: one lemma an operation, naming the parts of State that
may differ afterwards. -/

namespace Sys2Proof.Machine

theorem raiseIf_frame (b : Bool) (c : Cause) (s : State) : ∃ st, raiseIf b c s = { s with status := st } := by
  unfold raiseIf; split
  · exact ⟨_, rfl⟩
  · exact ⟨s.status, rfl⟩

/-! ## Port -/

theorem grant_frame (s : State) : ∃ l, grant s = { s with link := l } := by
  unfold grant; split
  · exact ⟨s.link, rfl⟩
  · split
    · exact ⟨s.link, rfl⟩
    · exact ⟨_, rfl⟩

theorem requestDrain_frame (s : State) : ∃ l, requestDrain s = { s with link := l } := by
  unfold requestDrain; split
  · exact ⟨_, rfl⟩
  · exact ⟨s.link, rfl⟩

theorem appendPosted_frame (t : WriteTxn) (s : State) : ∃ l, appendPosted t s = { s with link := l } := by
  unfold appendPosted
  obtain ⟨l, h⟩ := requestDrain_frame { s with link := { s.link with posted := s.link.posted ++ [t] } }
  obtain ⟨k, h'⟩ := grant_frame { s with link := l }
  exact ⟨k, by rw [h, h']⟩

theorem postWrite_frame (t : WriteTxn) (s : State) : ∃ l a, postWrite t s = { s with link := l, answer := a } := by
  unfold postWrite; split
  · obtain ⟨l, h⟩ := appendPosted_frame t s
    exact ⟨l, some (.accept []), by rw [h]; rfl⟩
  · exact ⟨s.link, _, rfl⟩

theorem endDrain_frame (s : State) : ∃ l, endDrain s = { s with link := l } := by
  unfold endDrain
  obtain ⟨l, h⟩ := requestDrain_frame (freePort { s with link := { s.link with posted := s.link.posted.tail } })
  obtain ⟨k, h'⟩ := grant_frame { s with link := l }
  exact ⟨k, by rw [h]; exact h'⟩

theorem discardDrain_frame (s : State) : ∃ l st, discardDrain s = { s with link := l, status := st } := by
  unfold discardDrain
  obtain ⟨l, h⟩ := endDrain_frame
    (raise .memoryFault { s with link := { s.link with discarded := satSucc s.link.discarded } })
  exact ⟨l, _, h⟩

theorem endRead_frame (r : Response) (s : State) : ∃ l a, endRead r s = { s with link := l, answer := a } := by
  unfold endRead
  obtain ⟨l, h⟩ := grant_frame (freePort (respond r { s with link := { s.link with forwarded := none } }))
  exact ⟨l, _, h⟩

/-! ## Write-out -/

theorem pendingToWaiting_frame (c : Channel) (s : State) :
    ∃ o st, pendingToWaiting c s = { s with out := o, status := st } := by
  unfold pendingToWaiting; split
  · exact ⟨_, _, rfl⟩
  · exact ⟨s.out, s.status, rfl⟩

theorem choose_frame (s : State) : ∃ o st, choose s = { s with out := o, status := st } := by
  unfold choose; split
  · exact ⟨s.out, s.status, rfl⟩
  · split
    · split
      · split
        · exact ⟨_, s.status, rfl⟩
        · exact ⟨_, s.status, rfl⟩
      · split
        · exact ⟨_, s.status, rfl⟩
        · exact ⟨s.out, s.status, rfl⟩
    · obtain ⟨o, st, h⟩ := pendingToWaiting_frame .i s
      obtain ⟨o', st', h'⟩ := pendingToWaiting_frame .p { s with out := o, status := st }
      exact ⟨o', st', by rw [h, h']⟩

theorem handWork_frame (c : Channel) (s : State) : ∃ o st, handWork c s = { s with out := o, status := st } := by
  unfold handWork; split
  · split
    · obtain ⟨o, st, h⟩ := choose_frame (setChanState c .pending s)
      exact ⟨o, st, h⟩
    · exact ⟨_, _, rfl⟩
  · exact ⟨s.out, s.status, rfl⟩

theorem offerSummary_frame (x : Summary) (s : State) :
    ∃ o st, offerSummary x s = { s with out := o, status := st } := by
  unfold offerSummary; split
  · obtain ⟨o, st, h⟩ := handWork_frame .i { s with out := { s.out with holding := s.out.holding ++ [x] } }
    exact ⟨o, st, h⟩
  · obtain ⟨o, st, h⟩ := handWork_frame .i
      { s with
        status := { s.status with causes := s.status.causes ||| Cause.summaryLost.mask }
        out := { s.out with
          holding := s.out.holding.eraseIdx (if s.out.chanI.state = .active then 1 else 0) ++ [x]
          lost := satSucc s.out.lost } }
    exact ⟨o, st, h⟩

theorem releaseItem_frame (it : Item) (s : State) : ∃ o sn oc p st,
    releaseItem it s = { s with out := o, snapshots := sn, occ := oc, period := p, status := st } := by
  unfold releaseItem; split
  · exact ⟨_, s.snapshots, s.occ, s.period, s.status, rfl⟩
  · split
    · split
      · exact ⟨s.out, _, _, s.period, _, rfl⟩
      · exact ⟨s.out, _, s.occ, s.period, s.status, rfl⟩
    · exact ⟨s.out, _, s.occ, s.period, s.status, rfl⟩
  · exact ⟨s.out, s.snapshots, s.occ, _, _, rfl⟩

theorem afterRecord_frame (c : Channel) (s : State) :
    ∃ o st, afterRecord c s = { s with out := o, status := st } := by
  unfold afterRecord; split
  · split
    · exact ⟨_, s.status, rfl⟩
    · exact ⟨_, _, rfl⟩
  · exact ⟨_, s.status, rfl⟩

theorem completeRecord_frame (c : Channel) (s : State) : ∃ o sn oc p st,
    completeRecord c s = { s with out := o, snapshots := sn, occ := oc, period := p, status := st } := by
  have key : ∀ t : State, ∃ o st, choose (afterRecord c t) = { t with out := o, status := st } := by
    intro t
    obtain ⟨o, st, h⟩ := afterRecord_frame c t
    obtain ⟨o', st', h'⟩ := choose_frame { t with out := o, status := st }
    exact ⟨o', st', by rw [h, h']⟩
  unfold completeRecord; split
  · rename_i r _
    obtain ⟨o, sn, oc, p, st, h⟩ := releaseItem_frame r.item
      { s with out := { s.out.setChan c { s.out.chan c with outcome := .complete } with
        w := s.out.w + 1, u := s.out.u + 1, seq := s.out.seq + 1, record := none } }
    simp only [h]
    obtain ⟨o', st', h'⟩ := key { s with out := o, snapshots := sn, occ := oc, period := p, status := st }
    exact ⟨o', sn, oc, p, st', h'⟩
  · obtain ⟨o', st', h'⟩ := key
      { s with out := { s.out.setChan c { s.out.chan c with outcome := .complete } with
        w := s.out.w + 1, u := s.out.u + 1, seq := s.out.seq + 1, record := none } }
    exact ⟨o', s.snapshots, s.occ, s.period, st', h'⟩

theorem keepItem_frame (s : State) : ∃ sn, keepItem s = { s with snapshots := sn } := by
  unfold keepItem; split
  · exact ⟨_, rfl⟩
  · exact ⟨s.snapshots, rfl⟩

theorem abandonRecord_frame (c : Channel) (x : ChannelOutcome) (s : State) :
    ∃ o sn, abandonRecord c x s = { s with out := o, snapshots := sn } := by
  obtain ⟨sn, h⟩ := keepItem_frame s
  exact ⟨_, sn, by rw [abandonRecord, h]⟩

theorem failRecord_frame (s : State) :
    ∃ o sn st, failRecord s = { s with out := o, snapshots := sn, status := st } := by
  unfold failRecord; split
  · rename_i c _
    obtain ⟨o, sn, h⟩ := abandonRecord_frame c .terminatedMemory s
    obtain ⟨o', st, h'⟩ := choose_frame (raise .writeoutFault { s with out := o, snapshots := sn })
    exact ⟨o', sn, st, by rw [h]; exact h'⟩
  · exact ⟨s.out, s.snapshots, s.status, rfl⟩

theorem cancelActive_frame (s : State) :
    ∃ l o sn, cancelActive s = { s with link := l, out := o, snapshots := sn } := by
  unfold cancelActive; split
  · rename_i c _
    obtain ⟨o, sn, h⟩ := abandonRecord_frame c .cancelled { s with link := s.link.dropWriteOut }
    exact ⟨_, o, sn, h⟩
  · exact ⟨s.link, s.out, s.snapshots, rfl⟩

theorem waitingToPending_frame (c : Channel) (s : State) : ∃ o, waitingToPending c s = { s with out := o } := by
  unfold waitingToPending; split
  · exact ⟨_, rfl⟩
  · exact ⟨s.out, rfl⟩

theorem exportRecords_frame (n : Nat) (s : State) :
    ∃ o st, exportRecords n s = { s with out := o, status := st } := by
  unfold exportRecords; dsimp only; split
  · exact ⟨_, s.status, rfl⟩
  · obtain ⟨o, h⟩ := waitingToPending_frame .i
      { s with out := { s.out with x := s.out.x + BitVec.ofNat 11 n, u := s.out.u - n } }
    obtain ⟨o', h'⟩ := waitingToPending_frame .p { s with out := o }
    obtain ⟨o'', st, h''⟩ := choose_frame { s with out := o' }
    exact ⟨o'', st, by rw [h, h', h'']⟩

/-! ## Unit commands -/

theorem clearFresh_frame (u : UnitId) (s : State) : ∃ l, clearFresh u s = { s with live := l } :=
  ⟨(clearFresh u s).live, by simp only [clearFresh]⟩

theorem unitCmdWrite_frame (code : BitVec 8) (u : UnitId) (s : State) : ∃ oc l st,
    unitCmdWrite code u s = { s with occ := oc, live := l, status := st, answer := some (.accept []) } := by
  have key : ∀ (o : CmdOutcome) (f : State → State),
      (∃ oc l st, f s = { s with occ := oc, live := l, status := st }) → ∃ oc l st,
      unitCommand code u o f s = { s with occ := oc, live := l, status := st, answer := some (.accept []) } := by
    intro o f ⟨oc, l, st, h⟩
    unfold unitCommand finishUnitCommand; split
    · exact ⟨oc, l, _, by rw [h]; rfl⟩
    · exact ⟨s.occ, s.live, _, rfl⟩
  unfold unitCmdWrite; split
  · refine key _ _ ?_
    unfold openEffect; dsimp only; split
    · obtain ⟨l, h⟩ := clearFresh_frame u (setOcc u _ s)
      exact ⟨_, l, s.status, h⟩
    · obtain ⟨l, h⟩ := clearFresh_frame u (setOcc u _ s)
      exact ⟨_, l, _, by rw [h]; rfl⟩
  · refine key _ _ ?_
    unfold closeEffect; dsimp only; split
    · obtain ⟨l, h⟩ := clearFresh_frame u (setOcc u _ s)
      exact ⟨_, l, s.status, h⟩
    · obtain ⟨l, h⟩ := clearFresh_frame u (setOcc u _ s)
      exact ⟨_, l, _, by rw [h]; rfl⟩
  · exact key _ _ ⟨_, s.live, s.status, rfl⟩
  · refine key _ _ ?_
    unfold cancelEffect
    obtain ⟨l, h⟩ := clearFresh_frame u (setOcc u _ s)
    exact ⟨_, l, _, by rw [h]; rfl⟩
  · exact key _ _ ⟨s.occ, s.live, s.status, rfl⟩

/-! ## Plan changes -/

theorem applyEntry_frame (e : PlanEntry) (s : State) : ∃ p l, applyEntry e s = { s with plan := p, live := l } := by
  unfold applyEntry; split
  · exact ⟨_, _, rfl⟩
  · exact ⟨_, s.live, rfl⟩

theorem occupancyAfterMeter_frame (i : MeterId) (a b : MeterEntry) (s : State) :
    ∃ l oc, occupancyAfterMeter i a b s = { s with live := l, occ := oc } := by
  unfold occupancyAfterMeter; dsimp only; split
  · exact ⟨_, _, rfl⟩
  · exact ⟨s.live, _, rfl⟩

theorem applyChange_frame (e : PlanEntry) (s : State) : ∃ p l oc r,
    applyChange e s = { s with plan := p, live := l, occ := oc, results := r } := by
  cases e
  case meter i x =>
    unfold applyChange; dsimp only
    obtain ⟨l, oc, h⟩ := occupancyAfterMeter_frame i s.plan.meters[i] x
      (applyMeter i x { s with results := (addWrittenOff s.plan.meters[i].medium
        (debtWrittenOff s.plan.meters[i] x s.live[i]) { s.results with applied := true }) })
    exact ⟨_, l, oc, _, h⟩
  all_goals exact ⟨_, s.live, s.occ, { s.results with applied := true }, rfl⟩

theorem handleChange_frame (s : State) (c : Change) : ∃ p l oc r rj st,
    handleChange s c = { s with plan := p, live := l, occ := oc, results := r, rejection := rj, status := st } := by
  unfold handleChange; split
  · exact ⟨s.plan, s.live, s.occ, s.results, s.rejection, s.status, rfl⟩
  · split
    · rename_i e _ _ _
      obtain ⟨p, l, oc, r, h⟩ := applyChange_frame e s
      exact ⟨p, l, oc, r, s.rejection, s.status, h⟩
    · exact ⟨s.plan, s.live, s.occ, _, _, _, rfl⟩

theorem handleChanges_frame (s : State) : ∃ p l oc r rj st,
    handleChanges s = { s with
      changes := [], plan := p, live := l, occ := oc, results := r, rejection := rj, status := st } := by
  have key : ∀ (cs : List Change) (t : State), ∃ p l oc r rj st,
      cs.foldl handleChange t =
        { t with plan := p, live := l, occ := oc, results := r, rejection := rj, status := st } := by
    intro cs
    induction cs with
    | nil => intro t; exact ⟨t.plan, t.live, t.occ, t.results, t.rejection, t.status, rfl⟩
    | cons c cs ih =>
      intro t
      obtain ⟨p, l, oc, r, rj, st, h⟩ := handleChange_frame t c
      obtain ⟨p', l', oc', r', rj', st', h'⟩ :=
        ih { t with plan := p, live := l, occ := oc, results := r, rejection := rj, status := st }
      exact ⟨p', l', oc', r', rj', st', by rw [List.foldl_cons, h, h']⟩
  exact key s.changes { s with changes := [] }

/-! ## The close -/

theorem stageOccupancy_frame (c : Close) (s : State) : ∃ oc sn a o st,
    stageOccupancy c s = { s with
      occ := oc, snapshots := sn, accounts := a, out := o, status := st
      close := some { c with next := .period, finalTaken := Vector.ofFn (closesNow c s) } } := by
  unfold stageOccupancy; dsimp only
  generalize hs : ({ s with
    occ := decideAll c s
    snapshots := _, accounts := _, close := _ } : State) = s1
  obtain ⟨st1, h1⟩ := raiseIf_frame
    ((List.finRange 256).any fun u => closesNow c s u || opensNow c s u) .unitChanged s1
  obtain ⟨st2, h2⟩ := raiseIf_frame
    ((List.finRange 256).any fun u : UnitId => u != 0 && awaitsFinals c.occ[u] s.occ[u]) .unitAwaiting
    { s1 with status := st1 }
  rw [h1, h2]
  split
  · obtain ⟨o, st, h⟩ := handWork_frame .p { s1 with status := st2 }
    exact ⟨_, _, _, o, st, by rw [h, ← hs]⟩
  · exact ⟨_, _, _, s.out, st2, by rw [← hs]⟩

theorem stagePeriod_frame (c : Close) (s : State) : ∃ sn a p o st,
    stagePeriod c s = { s with
      snapshots := sn, accounts := a, period := p, out := o, status := st
      close := some { c with next := .summary } } := by
  unfold stagePeriod; split
  · dsimp only
    generalize hs : ({ s with snapshots := _, accounts := _, period := _, close := _ } : State) = s1
    obtain ⟨o, st, h⟩ := handWork_frame .p s1
    exact ⟨_, _, _, o, st, by rw [h, ← hs]⟩
  · exact ⟨s.snapshots, s.accounts, s.period, s.out, s.status, rfl⟩

theorem stageSummary_frame (c : Close) (s : State) : ∃ o st,
    stageSummary c s = { s with
      out := o, status := st, results := ChangeResults.initial, close := some { c with next := .changes } } :=
  offerSummary_frame _ _

theorem stageChanges_frame (c : Close) (s : State) : ∃ p l oc r rj st,
    stageChanges c s = { s with
      changes := [], plan := p, live := l, occ := oc, results := r, rejection := rj, status := st
      close := some { c with next := .finish } } :=
  handleChanges_frame _

/-- A stage that is due runs. -/
theorem runStage_due {st : Stage} {s : State} {c : Close} (hc : s.close = some c) (hn : c.next = st) :
    runStage st s = stageEffect st c s := by simp [runStage, hc, hn]

/-- A stage that is not due changes nothing. -/
theorem runStage_other {st : Stage} {s : State} (h : ∀ c, s.close = some c → c.next ≠ st) :
    runStage st s = s := by
  unfold runStage; split
  · rename_i c hc; rw [if_neg (h c hc)]
  · rfl

/-- With no close in progress there is none to finish. -/
theorem finishClose_idle {s : State} (h : s.close = none) : finishClose s = s := by
  have : ∀ st, runStage st s = s := fun st => runStage_other (by simp [h])
  simp [finishClose, stageOrder, this]

/-- What any stage of a close can change. -/
theorem stageEffect_frame (st : Stage) (c : Close) (s : State) : ∃ ch pl rj lv zw ac sn pe re cl oc o st',
    stageEffect st c s = { s with
      changes := ch, plan := pl, rejection := rj, live := lv, zoneWork := zw, accounts := ac, snapshots := sn
      period := pe, results := re, close := cl, occ := oc, out := o, status := st' } := by
  cases st
  case direct =>
    exact ⟨s.changes, s.plan, s.rejection, s.live, s.zoneWork, _, s.snapshots, s.period, s.results, _, s.occ,
      s.out, s.status, rfl⟩
  case zones =>
    exact ⟨s.changes, s.plan, s.rejection, s.live, _, _, s.snapshots, s.period, s.results, _, s.occ, s.out,
      s.status, rfl⟩
  case residual =>
    exact ⟨s.changes, s.plan, s.rejection, s.live, _, _, s.snapshots, s.period, s.results, _, s.occ, s.out,
      s.status, rfl⟩
  case price =>
    exact ⟨s.changes, s.plan, s.rejection, s.live, s.zoneWork, _, s.snapshots, s.period, s.results, _, s.occ,
      s.out, s.status, rfl⟩
  case occupancy =>
    obtain ⟨oc, sn, a, o, st, h⟩ := stageOccupancy_frame c s
    exact ⟨s.changes, s.plan, s.rejection, s.live, s.zoneWork, a, sn, s.period, s.results, _, oc, o, st, h⟩
  case period =>
    obtain ⟨sn, a, p, o, st, h⟩ := stagePeriod_frame c s
    exact ⟨s.changes, s.plan, s.rejection, s.live, s.zoneWork, a, sn, p, s.results, _, s.occ, o, st, h⟩
  case summary =>
    obtain ⟨o, st, h⟩ := stageSummary_frame c s
    exact ⟨s.changes, s.plan, s.rejection, s.live, s.zoneWork, s.accounts, s.snapshots, s.period, _, _, s.occ, o,
      st, h⟩
  case changes =>
    obtain ⟨p, l, oc, r, rj, st, h⟩ := stageChanges_frame c s
    exact ⟨_, p, rj, l, s.zoneWork, s.accounts, s.snapshots, s.period, r, _, oc, s.out, st, h⟩
  case finish =>
    exact ⟨s.changes, s.plan, s.rejection, s.live, s.zoneWork, s.accounts, s.snapshots, s.period, s.results, _,
      s.occ, s.out, _, rfl⟩

theorem runStage_frame (st : Stage) (s : State) : ∃ ch pl rj lv zw ac sn pe re cl oc o st',
    runStage st s = { s with
      changes := ch, plan := pl, rejection := rj, live := lv, zoneWork := zw, accounts := ac, snapshots := sn
      period := pe, results := re, close := cl, occ := oc, out := o, status := st' } := by
  unfold runStage; split
  · split
    · exact stageEffect_frame _ _ _
    · exact ⟨s.changes, s.plan, s.rejection, s.live, s.zoneWork, s.accounts, s.snapshots, s.period, s.results,
        s.close, s.occ, s.out, s.status, rfl⟩
  · exact ⟨s.changes, s.plan, s.rejection, s.live, s.zoneWork, s.accounts, s.snapshots, s.period, s.results,
      s.close, s.occ, s.out, s.status, rfl⟩

theorem finishClose_frame (s : State) : ∃ ch pl rj lv zw ac sn pe re cl oc o st',
    finishClose s = { s with
      changes := ch, plan := pl, rejection := rj, live := lv, zoneWork := zw, accounts := ac, snapshots := sn
      period := pe, results := re, close := cl, occ := oc, out := o, status := st' } := by
  have key : ∀ (l : List Stage) (t : State), ∃ ch pl rj lv zw ac sn pe re cl oc o st',
      l.foldl (fun t st => runStage st t) t = { t with
        changes := ch, plan := pl, rejection := rj, live := lv, zoneWork := zw, accounts := ac, snapshots := sn
        period := pe, results := re, close := cl, occ := oc, out := o, status := st' } := by
    intro l
    induction l with
    | nil =>
      intro t
      exact ⟨t.changes, t.plan, t.rejection, t.live, t.zoneWork, t.accounts, t.snapshots, t.period, t.results,
        t.close, t.occ, t.out, t.status, rfl⟩
    | cons st l ih =>
      intro t
      obtain ⟨ch, pl, rj, lv, zw, ac, sn, pe, re, cl, oc, o, st', h⟩ := runStage_frame st t
      rw [List.foldl_cons, h]
      obtain ⟨ch2, pl2, rj2, lv2, zw2, ac2, sn2, pe2, re2, cl2, oc2, o2, st2, h2⟩ := ih _
      exact ⟨ch2, pl2, rj2, lv2, zw2, ac2, sn2, pe2, re2, cl2, oc2, o2, st2, h2⟩
  exact key stageOrder s

end Sys2Proof.Machine
end

