-- ==== Sys2Proof/Laws/Values.lean ====
section
/-! SUPPORT. What the shared computations come to: the arbiter, abandoned records, grid points, accumulators, ranges of addresses, transactions,
causes. One lemma for each, in the words of Sys2Proof/Safety.lean. -/

namespace Sys2Proof.Machine

/-! ## The upstream port -/

/-- A transaction is taken while the upstream port is free for it. -/
theorem takeUpstream_free {s : State} (h : UpstreamFree s) (f : State → State) : takeUpstream f s = f s := if_pos h

/-- A transaction that comes during a forwarded read or while BRST is asserted is not taken. -/
theorem takeUpstream_busy {s : State} (h : ¬ UpstreamFree s) (f : State → State) : takeUpstream f s = s := if_neg h

/-- The two conditions of a free port. -/
theorem upstreamFree_iff (s : State) : UpstreamFree s ↔ s.link.forwarded = none ∧ s.pins.brst = false := by
  simp [UpstreamFree]

/-! ## The arbiter -/

/-- A port that is taken stays as it is. -/
theorem grant_taken {s : State} {a : Access} (h : s.link.port = some a) : grant s = s := by
  unfold grant; rw [h]

/-- A free port that nobody waits for stays free. -/
theorem grant_idle {s : State} (h : s.link.port = none) (hf : s.link.order.find? s.link.waits = none) :
    grant s = s := by
  unfold grant; rw [h]; dsimp only; rw [hf]

/-- A free port goes to the first of the order that waits. -/
theorem grant_given {s : State} {r : Requester} (h : s.link.port = none)
    (hf : s.link.order.find? s.link.waits = some r) : grant s = { s with link := { s.link.withdraw r with
      port := accessFor s r, age := 0, order := s.link.order.filter (· != r) ++ [r] } } := by
  unfold grant; rw [h]; dsimp only; rw [hf]

/-- The three things the arbiter can make of a state. -/
theorem grant_cases (s : State) : (grant s = s ∧ ((∃ a, s.link.port = some a) ∨
      (s.link.port = none ∧ s.link.order.find? s.link.waits = none))) ∨
    ∃ r, s.link.port = none ∧ s.link.order.find? s.link.waits = some r := by
  cases h : s.link.port with
  | some a => exact .inl ⟨grant_taken h, .inl ⟨a, rfl⟩⟩
  | none =>
    cases hf : s.link.order.find? s.link.waits with
    | none => exact .inl ⟨grant_idle h hf, .inr ⟨rfl, rfl⟩⟩
    | some r => exact .inr ⟨r, rfl, rfl⟩

/-- The access a requester issues depends on the link, the record, slot W and the anchor alone. -/
theorem accessFor_of {u t : State} (ho : t.out = u.out) (hp : t.pins = u.pins) (r : Requester) :
    accessFor { t with link := u.link } r = accessFor u r := by
  cases r <;> simp [accessFor, ho, hp]

/-- What the arbiter makes of the link depends on the link, the record, slot W and the anchor alone. -/
theorem grant_of {u t : State} (ho : t.out = u.out) (hp : t.pins = u.pins) :
    grant { t with link := u.link } = { t with link := (grant u).link } := by
  rcases grant_cases u with ⟨h, ⟨a, ha⟩ | ⟨hn, hf⟩⟩ | ⟨r, hn, hf⟩
  · rw [h]; exact grant_taken ha
  · rw [h]; exact grant_idle hn hf
  · rw [grant_given hn hf, grant_given (s := { t with link := u.link }) hn hf, accessFor_of ho hp]

/-- A state whose link is what the arbiter made of `u` is arbitrated. -/
theorem arbitrated_of {u t : State} (hl : t.link = (grant u).link) (ho : t.out = u.out) (hp : t.pins = u.pins) :
    Arbitrated t u.link := by
  refine ⟨by rw [grant_of ho hp, ← hl], ?_⟩
  rcases grant_cases u with ⟨h, _⟩ | ⟨r, hn, hf⟩
  · rw [hl, h]; exact ⟨rfl, .inl rfl⟩
  · have hw : u.link.waits r = true := List.find?_some hf
    rw [hl, grant_given hn hf]
    exact ⟨by cases r <;> rfl,
      .inr ⟨r, hn, hw, (accessFor_of ho hp r).symm, rfl, by cases r <;> rfl⟩⟩

/-- The arbiter's own result is arbitrated. -/
theorem grant_arbitrated (u : State) : Arbitrated (grant u) u.link :=
  have ⟨_, h⟩ := grant_frame u
  arbitrated_of rfl (by rw [h]) (by rw [h])

/-- The drain's request: raised where the buffer holds an entry and none is being drained. -/
theorem requestDrain_eq (s : State) : requestDrain s = { s with
    link := { s.link with reqDrain := s.link.reqDrain || (!s.link.posted.isEmpty && !s.link.draining) } } := by
  unfold requestDrain
  split
  · rename_i h
    simp [h.1, h.2]
  · rename_i h
    have : (!s.link.posted.isEmpty && !s.link.draining) = false := by
      cases hp : s.link.posted <;> cases hd : s.link.draining <;> simp_all
    rw [this, Bool.or_false]

/-- A write appended to the buffer, and the arbiter acting. -/
theorem appendPosted_eq (t : WriteTxn) (s : State) : appendPosted t s = grant { s with
    link := { s.link with posted := s.link.posted ++ [t], reqDrain := s.link.reqDrain || !s.link.draining } } := by
  have hp : (!(s.link.posted ++ [t]).isEmpty) = true := by simp
  have hd : Link.draining { s.link with posted := s.link.posted ++ [t] } = s.link.draining := rfl
  rw [appendPosted, requestDrain_eq]
  simp only [hp, hd, Bool.true_and]

/-- A write that finds room in the buffer is posted. -/
theorem postWrite_postedTo (t : WriteTxn) {s : State} (h : s.bufferRoom = true) :
    PostedTo t s.link (postWrite t s) := by
  obtain ⟨l, hl⟩ := appendPosted_frame t s
  rw [postWrite, if_pos h]
  refine arbitrated_of (t := acceptWrite (appendPosted t s)) (u := { s with link := _ }) ?_ (by rw [hl]; rfl)
    (by rw [hl]; rfl)
  show (appendPosted t s).link = _
  rw [appendPosted_eq]

/-- The end of a drain's access: the head entry gone, the next one requested, the arbiter acting. -/
theorem endDrain_arbitrated (s : State) : Arbitrated (endDrain s) { s.link with
    port := none, posted := s.link.posted.tail
    reqDrain := s.link.reqDrain || !s.link.posted.tail.isEmpty } := by
  have h := grant_arbitrated
    (requestDrain (freePort { s with link := { s.link with posted := s.link.posted.tail } }))
  rw [requestDrain_eq] at h
  have hd : Link.draining { s.link with port := none, posted := s.link.posted.tail } = false := rfl
  rw [endDrain, requestDrain_eq]
  simpa only [freePort, hd, Bool.not_false, Bool.and_true] using h

/-! ## Abandoned records -/

/-- The snapshots of an abandoned record's state. -/
theorem keepItem_kept (s : State) : ItemKept s (keepItem s).snapshots := by
  intro v
  unfold keepItem
  split
  · rename_i u words step h
    refine ⟨?_, ?_⟩
    · intro r hr hi
      rw [h] at hr
      cases hr
      cases hi
      exact Vector.getElem_set_self _
    · intro hn
      have hu : u ≠ v := fun e => hn _ h (by rw [e])
      exact Vector.getElem_set_ne u.isLt v.isLt (fun e => hu (Fin.ext e))
  · rename_i hn
    refine ⟨?_, fun _ => rfl⟩
    rintro ⟨it, words, step⟩ hr hi
    cases hi
    exact absurd hr (hn v words step)

/-- A snapshot is held after an abandonment exactly where one was held before. -/
theorem ItemKept.held {s : State} {snaps : Vector (Option Statement) 256} (h : ItemKept s snaps) (v : UnitId) :
    snaps[v].isSome = s.snapshots[v].isSome := by
  by_cases hr : ∃ r, s.out.record = some r ∧ r.item = .statement v
  · obtain ⟨r, hr, hi⟩ := hr
    rw [(h v).1 r hr hi, Option.isSome_map]
  · rw [(h v).2 fun r hr' hi => hr ⟨r, hr', hi⟩]

/-- A statement is formed from its snapshot. -/
theorem recordWords_first {s : State} {u : UnitId} {x : Statement} (h : s.snapshots[u] = some x)
    (hf : x.formed = none) : recordWords s (.statement u) = statementWords u x s.out.seq := by
  simp only [recordWords, h, hf]

/-- A statement written again carries the words of the abandoned record, but for word 1. -/
theorem recordWords_again {s : State} {u : UnitId} {x : Statement} {words : List Word}
    (h : s.snapshots[u] = some x) (hf : x.formed = some words) :
    recordWords s (.statement u) = words.set 1 s.out.seq := by
  simp only [recordWords, h, hf, rewriteWords]

/-! ## Grid points and lengths -/

theorem IntervalLen.seconds_pos (l : IntervalLen) : 0 < l.seconds := by cases l <;> decide

/-- `nextGrid` is the next grid point of R87. -/
theorem nextGrid_spec (len : Nat) (h : 0 < len) (t : Time) : NextGridPoint len t (nextGrid len t) := by
  unfold NextGridPoint nextGrid
  have h1 := Nat.div_add_mod t.toNat len
  have h2 := Nat.mod_lt t.toNat h
  have h3 : (t.toNat / len + 1) * len = len * (t.toNat / len) + len := by
    rw [Nat.add_mul, Nat.mul_comm, Nat.one_mul]
  dsimp only
  split
  · rename_i hn
    left
    rw [BitVec.toNat_ofNat, Nat.mod_eq_of_lt hn]
    exact ⟨by omega, ⟨_, Nat.mul_comm _ _⟩, by omega⟩
  · rename_i hn
    right
    refine ⟨rfl, ?_⟩
    intro n hn' hd
    obtain ⟨k, rfl⟩ := hd
    have hk : t.toNat / len < k := (Nat.div_lt_iff_lt_mul h).mpr (by rw [Nat.mul_comm]; exact hn')
    have h4 : len * (t.toNat / len + 1) ≤ len * k := Nat.mul_le_mul_left _ hk
    rw [Nat.mul_add, Nat.mul_one] at h4
    omega

/-! ## Accumulators -/

/-- Within 64 bits an accumulator holds the sum itself. -/
theorem acc64_fits {x : Int} (h : Fits64 x) : acc64 x = x := by
  unfold Fits64 at h
  simp [acc64, h]

/-- Adding to an accumulator adds, where it can hold the sum. -/
theorem accAdd_added (a x : Int) : Added a x (accAdd a x) := by
  intro h
  unfold accAdd
  split
  · rename_i h0
    rw [h0, Int.add_zero]
  · exact acc64_fits h

@[simp] theorem accAdd_zero (a : Int) : accAdd a 0 = a := by simp [accAdd]

/-! ## Causes -/

theorem Cause.bit_lt (c : Cause) : c.bit < 15 := by cases c <;> decide

theorem Cause.bit_inj {a b : Cause} : a.bit = b.bit → a = b := by cases a <;> cases b <;> decide

theorem Cause.mask_bit (a b : Cause) : a.mask.getLsbD b.bit = (b == a) := by cases a <;> cases b <;> decide

/-- A raised cause is set, and every other cause is as it was. -/
theorem causeSet_raise (a b : Cause) (s : State) : (raise a s).causeSet b = (s.causeSet b || b == a) := by
  simp [State.causeSet, raise, Cause.mask_bit]

theorem causeSet_raiseIf (p : Bool) (a b : Cause) (s : State) :
    (raiseIf p a s).causeSet b = (s.causeSet b || (p && b == a)) := by
  cases p <;> simp [raiseIf, causeSet_raise]

/-! ## The clock monitor -/

/-- What a change of time quality leaves on the clock: the open interval is marked where quality is DEGRADED in
RUNNING. -/
theorem setQuality_clock (q : Quality) (s : State) : (setQuality q s).clock = { s.clock with
    quality := q
    interval := { s.clock.interval with
      degraded := s.clock.interval.degraded || (q == .degraded && s.status.mode == .running) } } := by
  have hr : s.running = (s.status.mode == .running) := rfl
  unfold setQuality
  rw [hr]
  cases hm : s.status.mode == .running
  · simp
  · by_cases hq : q = .degraded
    · simp [hq]
    · have hb : (q == .degraded) = false := by simpa using hq
      simp [hq, hb]

/-- The sources the monitor watches (R82). -/
theorem Clock.watches_iff (k : Clock) (src : Source) :
    k.watches src = true ↔ src ≠ .irc ∧
      (k.current = src ∨ (k.requested = some src ∧ k.switch ≠ .idle ∧ k.quiet src ≠ none)) := by
  simp [Clock.watches, Clock.seeks, Option.isSome_iff_ne_none, and_assoc]

/-- The monitor does not watch the IRC. -/
@[simp] theorem Clock.watches_irc (k : Clock) : k.watches .irc = false := rfl

/-- A declaration of a source that is not watched changes nothing. -/
theorem failSource_other {src : Source} {s : State} (h : s.clock.watches src = false) : failSource src s = s := by
  simp [failSource, h]

/-! ## First tests -/

/-- The first test that holds is one. -/
theorem FirstOf.unique {ts : List (CmdOutcome × Prop)} {a b : Option CmdOutcome} (ha : FirstOf ts a)
    (hb : FirstOf ts b) : a = b := by
  induction ts with
  | nil => exact ha.trans hb.symm
  | cons x ts ih =>
    rcases ha with ⟨h, ha⟩ | ⟨h, ha⟩ <;> rcases hb with ⟨k, hb⟩ | ⟨k, hb⟩
    · exact ha.trans hb.symm
    · exact absurd h k
    · exact absurd k h
    · exact ih ha hb

/-! ## Ranges of addresses (R150) -/

/-- An address at an offset from the anchor base is classified by that offset. -/
theorem classify_at {s : State} {a : Addr} {off : Nat} (h : At s a off) :
    classify s.pins.anchor a =
      if off < 0x10000 then .plan off
      else if off < 0x10400 then .drop off
      else if off < 0x10440 then .status off
      else if off < 0x11000 then .passThrough
      else if off < 0x1D200 then .account off
      else if off < 0x20000 then .passThrough
      else if off < 0x40000 then .ring off
      else .passThrough := by
  unfold At at h
  unfold classify anchorBase
  have e : a.toNat - s.pins.anchor.toNat * 0x200000 = off := by omega
  simp only [e]
  exact if_neg (by omega)

theorem classify_plan {s : State} {a : Addr} {off : Nat} (h : At s a off) (h2 : off < 0x10000) :
    classify s.pins.anchor a = .plan off := by
  rw [classify_at h]
  exact if_pos h2

theorem classify_drop {s : State} {a : Addr} {off : Nat} (h : At s a off) (h1 : 0x10000 ≤ off)
    (h2 : off < 0x10400) : classify s.pins.anchor a = .drop off := by
  rw [classify_at h]
  repeat rw [if_neg (by omega)]
  exact if_pos h2

theorem classify_status {s : State} {a : Addr} {off : Nat} (h : At s a off) (h1 : 0x10400 ≤ off)
    (h2 : off < 0x10440) : classify s.pins.anchor a = .status off := by
  rw [classify_at h]
  repeat rw [if_neg (by omega)]
  exact if_pos h2

theorem classify_account {s : State} {a : Addr} {off : Nat} (h : At s a off) (h1 : 0x11000 ≤ off)
    (h2 : off < 0x1D200) : classify s.pins.anchor a = .account off := by
  rw [classify_at h]
  repeat rw [if_neg (by omega)]
  exact if_pos h2

theorem classify_ring {s : State} {a : Addr} {off : Nat} (h : At s a off) (h1 : 0x20000 ≤ off)
    (h2 : off < 0x40000) : classify s.pins.anchor a = .ring off := by
  rw [classify_at h]
  repeat rw [if_neg (by omega)]
  exact if_pos h2

theorem classify_passThrough {s : State} {a : Addr} (h : PassThrough s a) :
    classify s.pins.anchor a = .passThrough := by
  rcases h with h | ⟨off, h, h2⟩
  · exact if_pos h
  · rw [classify_at h]
    repeat rw [if_neg (by omega)]
    repeat' split
    all_goals first | rfl | omega

/-! ## Transactions -/

/-- The overlap test of R155 is the sharing of a byte. -/
theorem covers_iff_overlaps (w : WriteTxn) (r : ReadTxn) :
    covers w r.addr.toNat (4 * r.len.words) = true ↔ Overlaps w r := by
  have h1 : 0 < w.len.words := by cases w.len <;> decide
  have h2 : 0 < r.len.words := by cases r.len <;> decide
  unfold covers spansMeet Overlaps
  rw [Bool.and_eq_true, decide_eq_true_eq, decide_eq_true_eq]
  constructor
  · intro h
    by_cases h3 : w.addr.toNat ≤ r.addr.toNat
    · exact ⟨r.addr.toNat, by omega⟩
    · exact ⟨w.addr.toNat, by omega⟩
  · rintro ⟨x, h⟩
    omega

/-- Some entry of the buffer overlaps the read. -/
theorem bufferCovers_iff (s : State) (r : ReadTxn) :
    s.bufferCovers r.addr.toNat (4 * r.len.words) = true ↔ ∃ w ∈ s.link.posted, Overlaps w r := by
  simp only [State.bufferCovers, List.any_eq_true, covers_iff_overlaps]

theorem fullEnables_w4 {t : WriteTxn} (h : t.len = .w4) : fullEnables t = true ↔ t.enables = [15, 15, 15, 15] := by
  unfold fullEnables
  rw [h]
  match t.enables with
  | [] => simp [Len.words]
  | [_] => simp [Len.words]
  | [_, _] => simp [Len.words]
  | [_, _, _] => simp [Len.words]
  | [_, _, _, _] => simp [Len.words]
  | _ :: _ :: _ :: _ :: _ :: _ => simp [Len.words]

theorem fullEnables_w1 {t : WriteTxn} (h : t.len = .w1) : fullEnables t = true ↔ t.enables = [15] := by
  unfold fullEnables
  rw [h]
  match t.enables with
  | [] => simp [Len.words]
  | [_] => simp [Len.words]
  | _ :: _ :: _ => simp [Len.words]

/-- The write form the plan area and the drop ring ask for. -/
theorem quadForm_iff (t : WriteTxn) :
    (t.len = .w4 ∧ fullEnables t = true) ↔ (t.len = .w4 ∧ t.enables = [15, 15, 15, 15]) := by
  constructor
  · rintro ⟨h, e⟩
    exact ⟨h, (fullEnables_w4 h).mp e⟩
  · rintro ⟨h, e⟩
    exact ⟨h, (fullEnables_w4 h).mpr e⟩

/-! ## The ring (R130) -/

/-- The unexported test is membership among the slots X, X+1, …, X+U−1. -/
theorem unexported_iff {o : WriteOut} (h : o.u ≤ 2048) (slot : BitVec 11) :
    o.unexported slot = true ↔ Unexported o slot := by
  unfold WriteOut.unexported Unexported
  rw [decide_eq_true_eq]
  constructor
  · intro hlt
    refine ⟨(slot - o.x).toNat, hlt, ?_⟩
    rw [BitVec.ofNat_toNat, BitVec.setWidth_eq]
    apply BitVec.eq_of_toNat_eq
    rw [BitVec.toNat_add, BitVec.toNat_sub]
    have := slot.isLt
    have := o.x.isLt
    omega
  · rintro ⟨k, hk, rfl⟩
    rw [BitVec.toNat_sub, BitVec.toNat_add, BitVec.toNat_ofNat]
    have := o.x.isLt
    omega

/-! ## Tables -/

/-- A number names a table index exactly where it is below the table's size. -/
theorem finOf_val {n : Nat} (i : Fin n) : finOf n i.val = some i := by simp [finOf]

theorem finOf_none {n v : Nat} (h : n ≤ v) : finOf n v = none := by
  unfold finOf
  rw [dif_neg (by omega)]

theorem finOf_eq_some {n v : Nat} {i : Fin n} : finOf n v = some i ↔ i.val = v := by
  unfold finOf
  split
  · simp [Fin.ext_iff, eq_comm]
  · rename_i h
    simp only [reduceCtorEq, false_iff]
    intro he
    exact h (he ▸ i.isLt)

/-- The entry number leads back to the entry (R2, R116). -/
theorem entryOfNumber_number (i : EntryId) : entryOfNumber i.number = some i := by
  cases i <;> unfold entryOfNumber EntryId.number <;> dsimp only <;> try rfl
  all_goals
    rename_i i
    have := i.isLt
    repeat rw [if_neg (by omega)]
    try rw [if_pos (by omega)]
    rw [Nat.add_sub_cancel_left, finOf_val]
    rfl

end Sys2Proof.Machine
end

