-- ==== Sys2Proof/Laws/Initial.lean ====
section
/-! SUPPORT. What the tables hold right after power-on reset and CLEAR: one lemma for each table and for what is
computed from it. -/

namespace Sys2Proof.Machine

@[simp] theorem Plan.initial_units (u : UnitId) : Plan.initial.units[u] = { area := 0, tariff := 0 } := by
  simp [Plan.initial]

@[simp] theorem Plan.initial_meters (m : MeterId) : Plan.initial.meters[m] = MeterEntry.initial := by
  simp [Plan.initial]

@[simp] theorem Plan.initial_zones (z : ZoneId) : Plan.initial.zones[z] = { enable := false, medium := .heat } := by
  simp [Plan.initial]

@[simp] theorem Plan.initial_keys (k : KeyId) :
    Plan.initial.keys[k] = { zone := none, unit := 0, factor := 0 } := by simp [Plan.initial]

/-- No meter is bound to any slot. -/
@[simp] theorem Plan.initial_bound (u : UnitId) (m : MeterId) : Plan.initial.bound u m = false := by
  unfold Plan.bound
  rw [Plan.initial_meters]
  rfl

/-- No slot has a bound meter that is not fresh. -/
@[simp] theorem staleCount_initial (live : Vector MeterLive 512) (u : UnitId) :
    staleCount Plan.initial live u = 0 := by simp [staleCount]

/-- No zone has a member. -/
@[simp] theorem Plan.initial_members (z : ZoneId) : Plan.initial.members z = [] := by
  unfold Plan.members
  rw [List.filterMap_eq_nil_iff]
  intro k _
  rw [Plan.initial_keys]
  rfl

/-- The empty plan meets every check of START. -/
theorem startFailure_initial : startFailure Plan.initial = none := by
  have h1 : (List.finRange 512).findSome? (startMeter Plan.initial) = none := by
    rw [List.findSome?_eq_none_iff]
    intro m _
    unfold startMeter Plan.zoneMediumDiffers
    rw [Plan.initial_meters]
    rfl
  have h2 : (List.finRange 32).findSome? (startZone Plan.initial) = none := by
    rw [List.findSome?_eq_none_iff]
    intro z _
    unfold startZone
    rw [Plan.initial_members, Plan.initial_zones]
    rfl
  have h3 : (List.finRange 2048).findSome? (startKey Plan.initial) = none := by
    rw [List.findSome?_eq_none_iff]
    intro k _
    unfold startKey
    rw [Plan.initial_keys]
  unfold startFailure
  rw [h1, h2, h3]
  rfl

/-- Slot 0 is OCCUPIED and every other slot VACANT, all counts and flags 0. -/
theorem occInitial_get (u : UnitId) :
    occInitial[u] = OccRecord.initial (if u = 0 then .occupied else .vacant) := by
  unfold occInitial
  by_cases h : u = 0
  · subst h
    rfl
  · have h0 : (0 : Nat) ≠ u.val := fun e => h (Fin.ext e.symm)
    rw [if_neg h, Fin.getElem_fin, Vector.getElem_set_ne _ _ h0, Vector.getElem_replicate]

/-- No slot waits for readings. -/
theorem occInitial_waits (u : UnitId) : occInitial[u].state.waits = false := by
  rw [occInitial_get]
  split <;> rfl

end Sys2Proof.Machine
end

