-- ==== Sys2Proof/Laws/Layouts.lean ====
section
/-! SUPPORT. The words the device shows and writes, in the terms of Sys2Proof/Safety.lean: a packed word is its fields
at their places, a 64-bit figure its two halves, a figure held to a field the nearer limit. -/

namespace Sys2Proof.Machine

/-- The fields stand in ascending order from bit `lo` on, without overlap, within 32 bits. -/
def fieldsFit (lo : Nat) : List (Nat × Nat × Nat) → Bool
  | [] => decide (lo ≤ 32)
  | f :: fs => decide (lo ≤ f.1) && fieldsFit (f.1 + f.2.1) fs

theorem fieldsFit_le {fs : List (Nat × Nat × Nat)} : ∀ {lo : Nat}, fieldsFit lo fs = true → lo ≤ 32 := by
  induction fs with
  | nil => intro lo h; exact of_decide_eq_true h
  | cons f fs ih =>
    intro lo h
    simp only [fieldsFit, Bool.and_eq_true, decide_eq_true_eq] at h
    have := ih h.2
    omega

/-- What the fields from bit `lo` on come to: a multiple of 2^lo below 2^32, the value of the packed word. -/
theorem packWord_sum {fs : List (Nat × Nat × Nat)} : ∀ {lo : Nat}, fieldsFit lo fs = true →
    ∃ k, (fs.map fun f => f.2.2 % 2 ^ f.2.1 * 2 ^ f.1).sum = k * 2 ^ lo ∧ k * 2 ^ lo < 2 ^ 32 ∧
      (packWord fs).toNat = k * 2 ^ lo := by
  induction fs with
  | nil => intro lo _; exact ⟨0, by simp, by simp, by simp [packWord]⟩
  | cons f fs ih =>
    intro lo h
    simp only [fieldsFit, Bool.and_eq_true, decide_eq_true_eq] at h
    obtain ⟨k, hs, hk, hp⟩ := ih h.2
    have hv : f.2.2 % 2 ^ f.2.1 < 2 ^ f.2.1 := Nat.mod_lt _ (Nat.two_pow_pos _)
    have hle := fieldsFit_le h.2
    have hpow : 2 ^ (f.1 + f.2.1) = 2 ^ f.2.1 * 2 ^ f.1 := by rw [Nat.add_comm, Nat.pow_add]
    have hfield : f.2.2 % 2 ^ f.2.1 * 2 ^ f.1 < 2 ^ (f.1 + f.2.1) := by
      rw [hpow]
      exact Nat.mul_lt_mul_of_pos_right hv (Nat.two_pow_pos _)
    have h32 : 2 ^ (f.1 + f.2.1) ≤ 2 ^ 32 := Nat.pow_le_pow_right (by omega) hle
    have hor : f.2.2 % 2 ^ f.2.1 * 2 ^ f.1 ||| k * 2 ^ (f.1 + f.2.1) =
        f.2.2 % 2 ^ f.2.1 * 2 ^ f.1 + k * 2 ^ (f.1 + f.2.1) := by
      rw [Nat.or_comm, Nat.mul_comm k, ← Nat.two_pow_add_eq_or_of_lt hfield, Nat.add_comm]
    have hdiv : 2 ^ f.1 = 2 ^ (f.1 - lo) * 2 ^ lo := by rw [← Nat.pow_add]; congr 1; omega
    have hX : (f.2.2 % 2 ^ f.2.1 * 2 ^ (f.1 - lo) + k * (2 ^ f.2.1 * 2 ^ (f.1 - lo))) * 2 ^ lo =
        f.2.2 % 2 ^ f.2.1 * 2 ^ f.1 + k * 2 ^ (f.1 + f.2.1) := by
      rw [hpow, hdiv, Nat.add_mul]
      simp only [Nat.mul_assoc]
    have hroom : k * 2 ^ (f.1 + f.2.1) + 2 ^ (f.1 + f.2.1) ≤ 2 ^ 32 := by
      have e : 2 ^ 32 = 2 ^ (32 - (f.1 + f.2.1)) * 2 ^ (f.1 + f.2.1) := by rw [← Nat.pow_add]; congr 1; omega
      rw [e] at hk ⊢
      have := Nat.lt_of_mul_lt_mul_right hk
      have h1 : k + 1 ≤ 2 ^ (32 - (f.1 + f.2.1)) := this
      have h2 := Nat.mul_le_mul_right (2 ^ (f.1 + f.2.1)) h1
      rwa [Nat.add_mul, Nat.one_mul] at h2
    refine ⟨f.2.2 % 2 ^ f.2.1 * 2 ^ (f.1 - lo) + k * (2 ^ f.2.1 * 2 ^ (f.1 - lo)), ?_, ?_, ?_⟩
    · rw [List.map_cons, List.sum_cons, hs, hX]
    · rw [hX]
      omega
    · show (field f.1 f.2.1 f.2.2 ||| packWord fs).toNat = _
      rw [hX, BitVec.toNat_or, hp, field, BitVec.toNat_ofNat, Nat.mod_eq_of_lt (by omega), hor]

/-- A packed word is the word of its fields. -/
theorem packWord_eq {fs : List (Nat × Nat × Nat)} (h : fieldsFit 0 fs = true) : packWord fs = wordOf fs := by
  obtain ⟨k, hs, hk, hp⟩ := packWord_sum h
  apply BitVec.eq_of_toNat_eq
  rw [wordOf, BitVec.toNat_ofNat, hs, Nat.mod_eq_of_lt hk, hp]

/-- The two words of a 64-bit figure. -/
theorem words64_eq (x : Int) : words64 x = lowHigh x := by
  unfold words64 lowHigh
  simp only [List.cons.injEq, and_true]
  constructor
  · apply BitVec.eq_of_toNat_eq
    simp only [BitVec.toNat_ofNat, BitVec.toNat_ofInt]
    omega
  · apply BitVec.eq_of_toNat_eq
    simp only [BitVec.toNat_ofNat, BitVec.toNat_ofInt]
    omega

/-- A figure held to a signed field shows the nearer limit. -/
theorem clampInt_eq (w : Nat) (x : Int) :
    clampInt w x = max (-((2 ^ (w - 1) : Nat) : Int)) (min (((2 ^ (w - 1) : Nat) : Int) - 1) x) := by
  have : (0 : Int) < (2 ^ (w - 1) : Nat) := by exact_mod_cast Nat.two_pow_pos _
  unfold clampInt
  split
  · omega
  · split <;> omega

/-- A figure in a signed 32-bit word. -/
theorem clampField32_eq (x : Int) : BitVec.ofNat 32 (clampField 32 x) = nearest32 x := by
  unfold clampField nearest32
  rw [clampInt_eq, BitVec.ofNat_toNat, BitVec.setWidth_eq]
  rfl

/-- Two figures in one word. -/
theorem figurePair_eq (a b : Int) : figurePair a b = pair16 a b := by
  unfold figurePair pair16 clampField kWh
  rw [packWord_eq rfl, clampInt_eq, clampInt_eq, BitVec.toNat_ofInt, BitVec.toNat_ofInt]
  rfl

/-- A figure lies beyond its field. -/
theorem beyondField_iff (w : Nat) (x : Int) :
    beyondField w x = decide (x < -(2 ^ (w - 1) : Nat) ∨ ((2 ^ (w - 1) : Nat) : Int) - 1 < x) := by
  have : (0 : Int) < (2 ^ (w - 1) : Nat) := by exact_mod_cast Nat.two_pow_pos _
  unfold beyondField
  rw [clampInt_eq]
  by_cases h : x < -(2 ^ (w - 1) : Nat) ∨ ((2 ^ (w - 1) : Nat) : Int) - 1 < x
  · rw [decide_eq_true h, bne_iff_ne]
    omega
  · rw [decide_eq_false h, bne_eq_false_iff_eq]
    omega

end Sys2Proof.Machine
end

