-- ==== Sys2Proof/Tests/Slice0.lean ====
section
/-! SUPPORT. The model's own tests: ill-formed commands that the check refuses, a few worked examples of the
manual, and for every statement with hypotheses a state and operands that meet them. -/

open Sys2Proof Sys2Proof.Machine

namespace Sys2Proof.Tests

/-! ## WellFormed refuses -/

theorem test_wf_write_word_aligned :
    Instr.wf (.postedWrite { addr := 2, len := .w1, data := [0], enables := [15] }) = false := by decide
theorem test_wf_write_data_count :
    Instr.wf (.postedWrite { addr := 4, len := .w2, data := [0], enables := [15, 15] }) = false := by decide
theorem test_wf_write_enable_count :
    Instr.wf (.dropWrite { addr := 4, len := .w2, data := [0, 0], enables := [15] }) = false := by decide
theorem test_wf_read_word_aligned :
    Instr.wf (.forwardedRead { addr := 1, len := .w1, enables := [15] }) = false := by decide
theorem test_wf_read_enable_count :
    Instr.wf (.forwardedRead { addr := 4, len := .w1, enables := [] }) = false := by decide
theorem test_wf_ring_access :
    Instr.wf (.statementRingAccess (.read { addr := 4, len := .w1, enables := [] })) = false := by decide
theorem test_wf_misaligned_is_misaligned :
    Instr.wf (.misalignedTransaction (.read { addr := 8, len := .w2, enables := [15, 15] })) = false := by decide
theorem test_wf_misaligned_taken :
    Instr.wf (.misalignedTransaction (.read { addr := 4, len := .w2, enables := [15, 15] })) = true := by decide
theorem test_wf_monitor_watches_no_irc : Instr.wf (.clockMonitorFail .irc) = false := by decide
theorem test_wf_command_code_known : Instr.wf (.commandBadCode 6 0) = false := by decide
theorem test_wf_command_code_unknown :
    Instr.wf (.commandBadCode 0 0) = true ∧ Instr.wf (.commandBadCode 7 0) = true := by decide
theorem test_wf_unit_code_known : Instr.wf (.unitCmdBadCode 4 0) = false := by decide
theorem test_wf_answer_count : Instr.wf (.readAnswer (.accept [0, 0, 0])) = false := by decide
theorem test_no_word_spells_a_command : decodeTableWord 32 0 = none := by decide

/-! ## Small states -/

/-- The machine after reset, in RUNNING with a set time. -/
def running : State :=
  { State.reset with
    status := { State.reset.status with mode := .running }
    clock := { State.reset.clock with quality := .good, time := 899, nextBoundary := 900 } }

/-- `running` with a close whose stage `st` is due. -/
def closing (st : Stage) : State :=
  { running with close := some { takeSnapshot 900 running running with next := st } }

/-- The close of `closing`. -/
def aClose (st : Stage) : Close := { takeSnapshot 900 running running with next := st }

/-- A reading record for meter `m` with a counter and a quality code. -/
def reading (m c quality : Nat) : QueuedReading :=
  { words := { w0 := BitVec.ofNat 32 (m + 65536 * quality), w1 := BitVec.ofNat 32 c, w2 := 60, w3 := 0 }
    capture := 60, slot := 3 }

/-- A state with one record in the reading queue. -/
def queued (r : QueuedReading) (s : State) : State := { s with capture := { s.capture with queue := [r] } }

/-- A UNIT meter bound to slot 1. -/
def aMeter : MeterEntry :=
  { kind := .unit, medium := .heat, binding := 1, scale := .x1, digits := 6, ratedMax := 20000 }

/-- `running` with `aMeter` as meter 0, its live fields `l`, and slot 1 in the state `o`. -/
def metered (l : MeterLive) (o : Occupancy) : State :=
  { running with
    plan := { running.plan with meters := running.plan.meters.set 0 aMeter }
    live := running.live.set 0 l
    occ := running.occ.set 1 { OccRecord.initial o with outstanding := 1 } }

/-- The live fields of a meter in a state, at a counter. -/
def liveAt (st : MeterState) (c debt : Nat) : MeterLive :=
  { MeterLive.initial with state := st, lastCounter := BitVec.ofNat 32 c, debt := debt }

/-- `running` with another clock. -/
def clocked (k : Clock) : State := { running with clock := k }

/-- A summary with every figure 0. -/
def aSummary : Summary := summaryOf (aClose .summary) running

/-- Channel I is ACTIVE with the head summary at step `st`, and the port carries `p`. -/
def writing (st : RecordStep) (u : Nat) (p : Option Access) : State :=
  { running with
    link := { Link.initial with port := p }
    out := { WriteOut.initial with
      u := u, w := BitVec.ofNat 11 u, holding := [aSummary], chanI := ⟨.active, .complete⟩, lastActive := .i
      record := some { item := .summary, words := List.replicate 16 0, step := st } } }

/-- `closing .changes` with one entry in the change queue. -/
def changing (e : PlanEntry) : State :=
  { closing .changes with changes := [{ entry := BitVec.ofNat 12 e.id.number, words := encodeEntry e }] }

/-- Some write of one word. -/
def aWrite (a : Nat) : WriteTxn := { addr := BitVec.ofNat 24 a, len := .w1, data := [0], enables := [15] }

/-- Some read of one word. -/
def aRead (a : Nat) : ReadTxn := { addr := BitVec.ofNat 24 a, len := .w1, enables := [15] }

/-- A 4-word write. -/
def quadWrite (a : Nat) (q : Quad) : WriteTxn :=
  { addr := BitVec.ofNat 24 a, len := .w4, data := [q.w0, q.w1, q.w2, q.w3], enables := [15, 15, 15, 15] }

/-- The statement snapshot of slot 1. -/
def aStatement (final mark : Bool) : Statement := statementOf running 1 900 final mark

/-! ## Worked examples -/

/-- An OPEN of slot 1 in RUNNING of an empty plan names an undefined unit (R97). -/
theorem test_open_undefined :
    ∃ t, exec (.openUnit 1) running = .next t ∧
      t.status.unitCommand = { code := 1, slot := 1, outcome := .undefinedUnit } ∧ t.occ = running.occ :=
  ⟨_, rfl, rfl, rfl⟩

/-- A TAKEN of 3100 counts at scale 1 books 3100 Wh actual (R33, R36). -/
theorem test_taken :
    (applyTaken aMeter 900 (reading 0 503100 0) (liveAt .live 500000 0)).actual = 3100 := by decide

/-- The counter 999 990 of a 6-digit meter read at 10 has wrapped: 20 counts (R33). -/
theorem test_wrap : deltaCounts aMeter (liveAt .live 999990 0) 10 = 20 := by decide

/-- A pool of 10 Wh shared by factors 1 and 2: 3 and 6 Wh, and 1 Wh of remainder for the member at the pointer
(R55). -/
theorem test_share :
    (shareOut 10 5 [{ key := 1, unit := 1, factor := 1 }, { key := 5, unit := 2, factor := 2 }]).map (·.2) =
      [3, 7] := by decide

/-- The words of the plan entry of meter 0 in `metered` (R180). -/
theorem test_meter_words :
    encodeEntry (.meter 0 aMeter) = { w0 := 0x00010001, w1 := 0x00000600, w2 := 20000, w3 := 0 } := by decide

/-- Chapter 10's layout read the other way: a 4-word entry at number 512. -/
theorem test_meter_entry :
    decodeEntry 512 { w0 := 0x00010001, w1 := 0x00000600, w2 := 20000, w3 := 0 } = some (.meter 0 aMeter) := by
  decide

/-- A negative pool is carried (R54). -/
theorem test_negative_pool :
    sharePool (-5) [{ key := 1, unit := 1, factor := 1 }] { carry := 2, pointer := 9 } =
      { shares := [], work := { carry := -5, pointer := 9 } } := by decide

/-- N = −1 × 1000 + 0 leaves a remainder in 0..999: −1 mills and 500 at E = −1, price 500 (R60). -/
theorem test_price_rounds_down :
    ((Figures.initial.bookDirect (-1) 0).priced 500).cost = -1 ∧
      ((Figures.initial.bookDirect (-1) 0).priced 500).remainder = 500 := by decide

/-! ## The hypotheses of the statements are met -/

theorem test_meets_CapacityInv :
    ∃ s t, CapacityInv s ∧ s.capture.queue.length = 64 ∧ s.changes.length = 32 ∧ s.link.posted.length = 8 ∧
      s.out.holding.length = 4 ∧ step s = .next t :=
  ⟨{ running with
      capture := { running.capture with queue := List.replicate 64 (reading 0 0 0) }
      changes := List.replicate 32 { entry := 256, words := { w0 := 0, w1 := 0, w2 := 0, w3 := 0 } }
      link := { running.link with posted := List.replicate 8 (aWrite 0), reqDrain := true }
      out := { running.out with holding := List.replicate 4 aSummary }
      pending := [.clearArm] }, _, by
    refine ⟨⟨?_, ?_, ?_, ?_⟩, ?_, ?_, ?_, ?_, rfl⟩ <;> simp⟩

/-- The write-out invariant holds of a channel writing, up to the last free slot of the ring. -/
theorem writing_WriteOutInv (st : RecordStep) (u : Nat) (h : u < 2048) (p : Option Access) :
    WriteOutInv (writing st u p) := by
  refine ⟨?_, ?_, ?_, ?_, ?_, ?_, ?_, ?_, ?_, ?_⟩
  · simp [writing, WriteOut.initial]
  · simp [writing]; omega
  · simp [writing, WriteOut.initial]
  · intro c _; simpa [writing] using h
  · intro c; cases c <;> simp [writing, WriteOut.initial, WriteOut.chan]
  · intro c; cases c <;> simp [writing, WriteOut.initial, WriteOut.chan]
  · intro c; cases c <;> simp [writing, WriteOut.initial, WriteOut.chan, hasWork]
  · intro c; cases c <;> simp [writing, WriteOut.initial, WriteOut.chan, Item.ofChannel]
  · simp [writing, WriteOut.active]
  · intro c; cases c <;> simp [writing, WriteOut.initial, WriteOut.chan]

/-- The link invariant holds with the first burst at the port. -/
theorem writing_LinkInv : LinkInv (writing .first 2047 (some (.firstBurst (aWrite 0)))) := by
  refine ⟨?_, ?_, ?_, ?_, ?_, ?_, ?_, ?_, ?_, ?_⟩ <;> simp [writing, Link.initial, running, State.reset]

theorem test_meets_StepKeepsWriteOutAndLink :
    ∃ s t, WriteOutInv s ∧ LinkInv s ∧ step s = .next t ∧ s.out.active = some .i :=
  ⟨{ writing .first 2047 (some (.firstBurst (aWrite 0))) with pending := [.brst true] }, _,
    by obtain ⟨a, b, c, d, e, f, g, h, i, j⟩ := writing_WriteOutInv .first 2047 (by omega) (some (.firstBurst (aWrite 0)))
       exact ⟨a, b, c, d, e, f, g, h, i, j⟩,
    by obtain ⟨a, b, c, d, e, f, g, h, i, j⟩ := writing_LinkInv
       exact ⟨a, b, c, d, e, f, g, h, i, j⟩, rfl, rfl⟩

/-- The occupancy invariant holds of the tables as reset leaves them, in RUNNING. -/
theorem running_OccupancyInv (p : List Instr) : OccupancyInv { running with pending := p } := by
  refine ⟨⟨rfl, rfl, rfl, rfl⟩, ?_, ?_, ?_⟩
  · intro u
    have h : occInitial[u].outstanding = 0 := by rw [occInitial_get]; rfl
    have w := occInitial_waits u
    show occInitial[u].outstanding = if occInitial[u].state.waits = true then _ else 0
    rw [h, w]
    rfl
  · intro u
    show occInitial[u].deadline ≤ 8
    rw [occInitial_get]
    exact Nat.zero_le 8
  · intro h
    cases h

theorem test_meets_StepKeepsOccupancy : ∃ s t, OccupancyInv s ∧ step s = .next t :=
  ⟨_, _, running_OccupancyInv [.closeUnit 0], rfl⟩

theorem test_meets_LoadingConditions : ∃ s, s.status.mode = .loading ∧ LoadingConditions s :=
  ⟨{ State.reset with idle := 1 }, rfl, rfl, by intro u; simp [State.reset, State.powerOn],
    by intro u
       show occInitial[u].state = _ ∨ occInitial[u].state = _
       rw [occInitial_get]
       by_cases h : u = 0
       · right; rw [if_pos h]; rfl
       · left; rw [if_neg h]; rfl,
    rfl, rfl, rfl, rfl⟩

theorem test_meets_StepKeepsAccounts : ∃ s t, AccountsInv s ∧ summing s ∧ step s = .next t :=
  ⟨{ closing .price with pending := [.stageZones] }, _,
    ⟨by intro u m; cases m <;> simp [closing, running, State.reset, State.powerOn, Both.get, Figures.initial],
     by intro h; exact absurd ⟨_, rfl, .inr (.inr rfl)⟩ h⟩, ⟨_, rfl, .inr (.inr rfl)⟩, rfl⟩

/-- The empty plan meets the six conditions. -/
theorem initial_PlanConsistent : PlanConsistent Plan.initial := by
  refine ⟨?_, ?_, ?_, ?_, ?_, ?_, ?_, ?_⟩
  · intro m h; rw [Plan.initial_meters] at h; cases h
  · intro m z h; rw [Plan.initial_meters] at h; cases h
  · intro z; rw [Plan.initial_members]; exact Nat.zero_le _
  · intro z h; rw [Plan.initial_zones] at h; cases h
  · intro z h; rw [Plan.initial_zones] at h; cases h
  · intro k z h; rw [Plan.initial_keys] at h; cases h
  · intro k z h; rw [Plan.initial_keys] at h; cases h
  · intro j k z _ h; rw [Plan.initial_keys] at h; cases h

theorem test_meets_StepKeepsThePlanConsistent :
    ∃ s t : State, PlanInv s ∧ s.status.mode = .running ∧ step s = .next t ∧ t.status.mode = .running :=
  ⟨{ changing (.unit 1 { area := 50, tariff := 0 }) with pending := [.stageChanges] }, _,
    fun _ => initial_PlanConsistent, rfl, rfl, rfl⟩

theorem test_meets_LoadingChangesNoAccount : ∃ s t : State, s.status.mode = .loading ∧ s.close = none ∧ step s = .next t :=
  ⟨{ State.reset with pending := [.start] }, _, rfl, rfl, rfl⟩

theorem test_meets_ClosedUnitsLeaveOnlyByTheirFinalStatement :
    ∃ (s t : State) (u : UnitId), u ≠ 0 ∧ s.occ[u].state = .closed ∧ step s = .next t ∧ t.occ[u].state ≠ .closed :=
  ⟨{ running with occ := running.occ.set 1 (OccRecord.initial .closed), pending := [.powerOnReset] }, _, 1,
    by decide, by simp [OccRecord.initial], rfl, by
      show occInitial[(1 : UnitId)].state ≠ .closed
      rw [occInitial_get]
      decide⟩

/-- BRST found released with a channel ACTIVE; BRST found asserted, and a read found in progress, by a transaction. -/
theorem test_meets_BrstResetsTheBusSide :
    (∃ s, WriteOutInv s ∧ LinkInv s ∧ s.out.active = some .i ∧ s.link.forwarded = none ∧ s.pins.brst = false) ∧
    (∃ (s : State) (c : Instr), Upstream c = true ∧ s.pins.brst = true ∧ exec c s = .next s) ∧
    ∃ (s : State) (c : Instr), Upstream c = true ∧ s.link.forwarded ≠ none :=
  ⟨⟨_, writing_WriteOutInv .first 2047 (by omega) _, writing_LinkInv, rfl, rfl, rfl⟩,
    ⟨setBrst true running, .clearArm, rfl, rfl, rfl⟩,
    { running with link := { Link.initial with forwarded := some (aRead 0) } }, .postedWrite (aWrite 0), rfl, by
      simp⟩

/-- Each clause on the second edge and the pulses has a state: the wrap of billing time, a pulse at the end of the
half second and just before it, the third pulse of a run at its window's lower end, a pulse of a settled TREF. -/
theorem test_meets_EdgesAndPulsesAdvanceBillingTime :
    (∃ s : State, s.clock.switch ≠ .settled ∧ s.status.mode = .running ∧ s.clock.time + 1 ≠ s.clock.nextBoundary ∧
      s.clock.time.toNat = 4294967295) ∧
    (∃ s : State, s.clock.switch ≠ .settled ∧ s.status.mode = .loading) ∧
    (∃ k : Clock, k.current = .tref ∧ k.requested = some .xtal ∧ k.switch = .settled ∧
      k.trefGuard.map (· + 16384) = some 16384 ∧ k.trefGuard.map (· + 16383) = some 16383) ∧
    (∃ k : Clock, k.current ≠ .tref ∧ k.requested = some .tref ∧ k.switch = .settling ∧ k.runCount = 2 ∧
      99 * 32768 ≤ 100 * (k.sinceRun + 32441) ∧ ¬ 99 * 32768 ≤ 100 * (k.sinceRun + 32440)) ∧
    (∃ k : Clock, k.current ≠ .tref ∧ k.requested = some .tref ∧ k.switch = .settled) ∧
    ∃ k : Clock, k.current ≠ .tref ∧ k.requested ≠ some .tref :=
  ⟨⟨clocked { running.clock with time := 4294967295 }, by decide, rfl, by decide, rfl⟩,
    ⟨State.reset, by decide, rfl⟩,
    ⟨{ running.clock with current := .tref, requested := some .xtal, switch := .settled, trefGuard := some 0 }, rfl,
      rfl, rfl, rfl, rfl⟩,
    ⟨{ running.clock with requested := some .tref, switch := .settling, runCount := 2 }, by decide, rfl, rfl, rfl,
      by decide, by decide⟩,
    ⟨{ running.clock with requested := some .tref, switch := .settled }, by decide, rfl, rfl⟩,
    running.clock, by decide, by decide⟩

/-- A second edge of XTAL restarts its measure (R82). -/
theorem test_xtal_edge_restarts_measure :
    ∃ t, exec .secondEdge (clocked { running.clock with current := .xtal, time := 0, xtalQuiet := some 32 }) = .next t ∧
      t.clock.xtalQuiet = some 0 := ⟨_, rfl, rfl⟩

theorem test_meets_BoundaryMovesTheClock :
    (∃ s : State, s.status.mode = .running ∧ s.close = none ∧ s.clock.switch ≠ .settled ∧
      s.clock.time + 1 = s.clock.nextBoundary) ∧
    ∃ s : State, s.status.mode = .running ∧ s.close = none ∧ s.clock.switch ≠ .settled ∧
      s.clock.time + 1 = s.clock.nextBoundary ∧
      4294967296 ≤ s.clock.nextBoundary.toNat + s.plan.header.len.seconds ∧ 0 < s.clock.adjust :=
  ⟨⟨running, rfl, rfl, by decide, rfl⟩,
    { running with clock := { running.clock with time := 4294966499, nextBoundary := 4294966500, adjust := 1 } },
    rfl, rfl, by decide, by decide, by decide, by decide⟩

theorem test_meets_BoundaryTakesTheSnapshot :
    Missed (liveAt .estimating 0 0) ∧ ¬ Missed (liveAt .unseen 0 0) ∧ Missed (liveAt .stale 0 0) ∧
      5 ≤ (satSucc { liveAt .estimating 0 0 with missed := 4 }.missed).toNat ∧
      (satSucc { liveAt .estimating 0 0 with missed := 3 }.missed).toNat < 5 ∧
      5 ≤ (satSucc { liveAt .estimating 0 0 with missed := 65535 }.missed).toNat := by
  refine ⟨⟨.inr (.inl rfl), rfl⟩, ?_, ⟨.inr (.inr rfl), rfl⟩, by decide, by decide, by decide⟩
  rintro ⟨h | h | h, _⟩ <;> cases h

/-- The last slot of the last day before the wrap, by the week map; and by a holiday entry. -/
theorem test_meets_BandFollowsTheCalendar :
    (∃ (t : Time) (slot : Nat) (profile : Fin 4) (i : Fin 12) (j : Fin 16) (d : Fin 7), t.toNat / 86400 = 49709 ∧
      slot = t.toNat % 86400 / 1800 ∧ slot = 47 ∧ i.val = 3 * profile.val + slot / 16 ∧ j.val = slot % 16 ∧
      d.val = (49709 + 5) % 7 ∧ profile = Plan.initial.weekMap[d] ∧ ∀ y : Fin 16, Plan.initial.holidays[y].day = 0) ∧
    ∃ (p : Plan) (h : Fin 16), p.holidays[h].day ≠ 0 ∧ p.holidays[h].day.toNat = 49709 ∧ h = 0 :=
  ⟨⟨4294943999, 47, 0, 2, 15, ⟨(49709 + 5) % 7, by omega⟩, by decide, by decide, rfl, by decide, by decide, rfl, by
      simp [Plan.initial], by simp [Plan.initial]⟩,
    { Plan.initial with holidays := Vector.replicate 16 { day := 49709, profile := 1 } }, 0, by simp, by simp, rfl⟩

/-- A switch that settles, one that has settled and takes place at a boundary, a source that fails as the current
one, as the requested one, and one that has given no edge since its request. -/
theorem test_meets_SwitchesSettleFailOrTakePlace :
    (∃ k : Clock, k.requested = some .xtal ∧ k.switch = .settling ∧ k.crystalPeriods = 1023 ∧
      k.current ≠ .xtal ∧ k.xtalQuiet ≠ none) ∧
    (∃ k : Clock, k.requested = some .xtal ∧ k.switch = .settling ∧ k.current ≠ .xtal ∧ k.xtalQuiet = none) ∧
    (∃ s : State, s.clock.switch = .settled ∧ s.clock.requested = some .xtal ∧
      s.clock.time + 1 = s.clock.nextBoundary ∧ s.close = none) ∧
    (∃ k : Clock, k.current = .tref) ∧ ∃ k : Clock, k.requested ≠ some .xtal ∧ k.switch ≠ .settling :=
  ⟨⟨{ running.clock with requested := some .xtal, switch := .settling, crystalPeriods := 1023, xtalQuiet := some 0 },
      rfl, rfl, rfl, by decide, by decide⟩,
    ⟨{ running.clock with requested := some .xtal, switch := .settling }, rfl, rfl, by decide, rfl⟩,
    ⟨clocked { running.clock with requested := some .xtal, switch := .settled }, rfl, rfl, rfl, rfl⟩,
    ⟨{ running.clock with current := .tref }, rfl⟩, running.clock, by decide, by decide⟩

/-- A requested TREF that has given no pulse is not watched, and one that has given a pulse is (R82). -/
theorem test_unwatched_until_first_pulse :
    failSource .tref (clocked { running.clock with requested := some .tref, switch := .settling }) =
        clocked { running.clock with requested := some .tref, switch := .settling } ∧
      (failSource .tref (clocked { running.clock with
        requested := some .tref, switch := .settling, trefQuiet := some 49151 })).clock.lastSwitch = .switchFailed :=
  ⟨rfl, rfl⟩

/-- The measures at their limits and one period before. -/
theorem test_meets_IdleStepsMoveTheMeasures :
    (∃ s : State, s.pending = [] ∧ s.link.port ≠ none ∧ s.link.age + 1 = 1024) ∧
    (∃ s : State, s.link.port ≠ none ∧ s.link.age + 1 = 1023) ∧
    (∃ k : Clock, k.current = .xtal ∧ k.phase + 1 = 32768) ∧
    (∃ k : Clock, k.current = .irc ∧ k.phase + 1 = 32767 ∧ k.switch = .settling ∧ k.limit + 1 = 131072 ∧
      k.requested = some .tref ∧ k.trefQuiet = some 49151) ∧
    ∃ k : Clock, k.current = .xtal ∧ k.xtalQuiet = some 32 :=
  ⟨⟨{ running with link := { Link.initial with port := some (.disregarded (.read (aRead 0))), age := 1023 } }, rfl,
      by simp, rfl⟩,
    ⟨{ running with link := { Link.initial with port := some (.disregarded (.read (aRead 0))), age := 1022 } },
      by simp, rfl⟩,
    ⟨{ running.clock with current := .xtal, phase := 32767 }, rfl, rfl⟩,
    ⟨{ running.clock with
        phase := 32766, switch := .settling, limit := 131071, requested := some .tref, trefQuiet := some 49151 },
      rfl, rfl, rfl, rfl, rfl, rfl⟩,
    { running.clock with current := .xtal, xtalQuiet := some 32 }, rfl, rfl⟩

/-- The upstream port is free in the small states. -/
theorem test_meets_UpstreamFree : UpstreamFree running ∧ UpstreamFree State.reset := ⟨rfl, rfl⟩

theorem test_meets_ClockSwitchIsJudged :
    running.locked = false ∧
      { running with
        plan := { running.plan with header := { running.plan.header with lockEnable := true } }
        pins := { running.pins with planLock := true } }.locked = true := ⟨rfl, rfl⟩

/-- A request finds the other source's measure as it stood and leaves its own not started; the current source named
ends the switch, and a set time on the IRC marks the open interval (R77, R82, R89). -/
theorem test_clock_switch_measures :
    (requestSource .tref (clocked { running.clock with trefQuiet := some 5, xtalQuiet := some 6 })).clock.trefQuiet =
        none ∧
      (requestSource .tref (clocked { running.clock with xtalQuiet := some 6 })).clock.xtalQuiet = some 6 ∧
      (endSwitched .irc (clocked { running.clock with quality := .good })).clock.interval.degraded = true :=
  ⟨rfl, rfl, rfl⟩

theorem test_meets_TimeAndAdjustmentWritesAreJudged :
    2 * (450 : Word).toInt.natAbs ≤ running.plan.header.len.seconds ∧
      2 * (4294966846 : Word).toInt.natAbs ≤ running.plan.header.len.seconds ∧
      running.plan.header.len.seconds < 2 * (451 : Word).toInt.natAbs := by decide

/-! ### The close -/

theorem test_meets_Stages (st : Stage) : (closing st).close = some (aClose st) ∧ (aClose st).next = st := ⟨rfl, rfl⟩

theorem test_meets_Shared :
    Shared 0 [{ key := 2047, unit := 255, factor := 1 }] ∧ ¬ Shared (-1) [{ key := 0, unit := 0, factor := 1 }] ∧
      ¬ Shared 5 [] ∧ ¬ Shared 5 [{ key := 0, unit := 0, factor := 0 }] := by
  refine ⟨⟨by decide, by decide, by decide⟩, ?_, ?_, ?_⟩
  · rintro ⟨h, _⟩; exact absurd h (by decide)
  · rintro ⟨_, h, _⟩; exact h rfl
  · rintro ⟨_, _, h⟩; exact h rfl

theorem test_meets_SharingIsExact :
    ∃ ms : List Member, ms ≠ [] ∧ weight ms ≠ 0 ∧ sharingRemainder 7 ms ≠ 0 ∧ sharingRemainder 6 ms = 0 :=
  ⟨[{ key := 0, unit := 0, factor := 1 }, { key := 2047, unit := 255, factor := 2 }], by decide, by decide,
    by decide, by decide⟩

theorem test_meets_StageZonesShareOrCarry :
    ∃ (s : State) (c : Close) (z : ZoneId), s.close = some c ∧ c.next = .zones ∧ z.val = 29 ∧
      s.plan.zones[z].enable = true :=
  ⟨{ closing .zones with
      plan := { running.plan with zones := running.plan.zones.set 29 { enable := true, medium := .cool } } },
    aClose .zones, 29, rfl, rfl, rfl, by
      show (running.plan.zones.set 29 _)[29].enable = true
      rw [Vector.getElem_set_self]⟩

theorem test_meets_StageResidualSharesOrCarries :
    ∃ (s : State) (c : Close), s.close = some c ∧ c.next = .residual ∧ s.plan.zones[(31 : ZoneId)].enable = true :=
  ⟨{ closing .residual with
      plan := { running.plan with zones := running.plan.zones.set 31 { enable := true, medium := .cool } } },
    aClose .residual, rfl, rfl, by
      show (running.plan.zones.set 31 _)[31].enable = true
      rw [Vector.getElem_set_self]⟩

theorem test_meets_StagePriceIsExact :
    ∃ i : Fin 32, i.val = 8 * (3 : Fin 4).val + (7 : Fin 8).val ∧ Fits64 (0 + ((-1) * 500 + 0) / 1000) :=
  ⟨31, rfl, by decide, by decide⟩

/-- The records of stage 6 at the clauses' edges: the deadline count rises to 8 or stands at 7. -/
theorem test_meets_StageOccupancyDecides :
    ∃ r r' : OccRecord, r.state = .closing ∧ r.cmdSinceBoundary = false ∧ r.deadline = 7 ∧ r.outstanding ≠ 0 ∧
      r.finalsForced = false ∧ r'.state = .opening ∧ r'.deadline = 6 ∧ r'.outstanding ≠ 0 :=
  ⟨{ OccRecord.initial .closing with deadline := 7, outstanding := 1 },
    { OccRecord.initial .opening with deadline := 6, outstanding := 1 }, rfl, rfl, rfl, by decide, rfl, rfl, rfl,
    by decide⟩

/-- A period close due, with a FINAL snapshot of stage 6 still held, and with one released already. -/
theorem test_meets_StagePeriodTakesThePeriodSet :
    ∃ (s : State) (c : Close), s.close = some c ∧ c.next = .period ∧ c.periodDue = true ∧
      c.occ[(1 : UnitId)] = .closing ∧ c.finalTaken[(1 : UnitId)] = true ∧
      s.snapshots[(1 : UnitId)] = some (aStatement true false) ∧
      c.occ[(2 : UnitId)] = .closing ∧ c.finalTaken[(2 : UnitId)] = true ∧ s.snapshots[(2 : UnitId)] = none :=
  ⟨{ running with
      snapshots := running.snapshots.set 1 (some (aStatement true false))
      close := some { aClose .period with
        periodDue := true, occ := Vector.replicate 256 .closing, finalTaken := Vector.replicate 256 true } },
    _, rfl, rfl, rfl, by simp, by simp, by simp, by simp, by simp, by
      simp [running, State.reset, State.powerOn]⟩

theorem test_meets_StageSummaryOffersAndStageEndCloses :
    ∃ (s : State) (c : Close), s.close = some c ∧ c.next = .summary ∧ s.out.holding.length = 4 ∧ s.out.u = 2048 ∧
      s.out.chanI.state = .idle :=
  ⟨{ closing .summary with out := { WriteOut.initial with u := 2048, holding := List.replicate 4 aSummary } },
    _, rfl, rfl, rfl, rfl, rfl⟩

theorem test_meets_StageChangesDropsOrApplies :
    (∃ (s : State) (e : PlanEntry), s.changes = [{ entry := 512, words := encodeEntry e }] ∧
      decodeEntry (512#12).toNat (encodeEntry e) = some e ∧ checkEntry s e = some .unitUndefined) ∧
    ∃ (s : State) (e : PlanEntry), s.changes = [{ entry := 1087, words := encodeEntry e }] ∧
      decodeEntry (1087#12).toNat (encodeEntry e) = some e ∧ checkEntry s e = none :=
  ⟨⟨changing (.meter 0 aMeter), .meter 0 aMeter, rfl, by decide, by
      simp [checkEntry, checkMeter, aMeter, Plan.undefinedSlot, changing, closing, running, State.reset,
        State.powerOn, Plan.initial]⟩,
    changing (.price 31 { heat := 1000000, cool := 0 }), .price 31 { heat := 1000000, cool := 0 }, rfl, by decide,
    rfl⟩

/-- Two entries of one queue: the first makes slot 1 defined, and a UNIT meter bound to it then passes. -/
theorem test_meets_StageChangesInOrder :
    ∃ (s : State) (x y : Change) (e : UnitEntry), s.changes = [x, y] ∧
      decodeEntry x.entry.toNat x.words = some (.unit 1 e) ∧
      decodeEntry y.entry.toNat y.words = some (.meter 0 aMeter) ∧
      checkEntry s (.meter 0 aMeter) = some .unitUndefined ∧
      checkEntry { s with plan := (PlanEntry.unit 1 e).place s.plan } (.meter 0 aMeter) = none :=
  ⟨{ closing .changes with changes :=
        [{ entry := 257, words := encodeEntry (.unit 1 { area := 50, tariff := 0 }) },
         { entry := 512, words := encodeEntry (.meter 0 aMeter) }] },
    _, _, { area := 50, tariff := 0 }, rfl, by decide, by decide, by
      simp [checkEntry, checkMeter, aMeter, Plan.undefinedSlot, closing, running, State.reset, State.powerOn,
        Plan.initial], by
      simp [checkEntry, checkMeter, aMeter, Plan.undefinedSlot, closing, running, State.reset, State.powerOn,
        Plan.initial, PlanEntry.place, Plan.zoneMediumDiffers, leavesZoneEmpty, MeterEntry.initial, finOf]⟩

theorem test_meets_StageChangesAppliesAMeterEntry :
    ∃ (s : State) (i : MeterId) (new old : MeterEntry),
      s.changes = [{ entry := 512, words := encodeEntry (.meter i new) }] ∧
      decodeEntry (512#12).toNat (encodeEntry (.meter i new)) = some (.meter i new) ∧
      old = s.plan.meters[i] ∧ old.kind ≠ .unused ∧ new.kind = .unused ∧ checkEntry s (.meter i new) = none :=
  ⟨{ changing (.meter 0 { aMeter with kind := .unused }) with
      plan := { running.plan with meters := running.plan.meters.set 0 aMeter } },
    0, { aMeter with kind := .unused }, aMeter, rfl, by decide, by simp, by decide, rfl, by
      simp [checkEntry, checkMeter, aMeter, leavesZoneEmpty, Plan.zoneMediumDiffers, finOf]⟩

/-! ### Reading capture -/

theorem test_meets_DropWriteIsCapturedAndPosted :
    ∃ (s : State) (t : WriteTxn) (off : Nat), UpstreamFree s ∧ At s t.addr off ∧ off = 0x103F0 ∧ t.aligned = true ∧
      t.len = .w4 ∧ t.enables = [15, 15, 15, 15] ∧ t.data = [1, 2, 3, 4] ∧ s.capture.queue.length = 31 ∧
      s.link.posted.length = 7 :=
  ⟨{ running with
      capture := { running.capture with queue := List.replicate 31 (reading 0 0 0) }
      link := { running.link with posted := List.replicate 7 (aWrite 0), reqDrain := true } },
    quadWrite 0x103F0 { w0 := 1, w1 := 2, w2 := 3, w3 := 4 }, 0x103F0, rfl, rfl, rfl, by decide, rfl, rfl, rfl, rfl,
    rfl⟩

/-- A record meets each of the outcomes of R29 in turn. -/
theorem test_meets_outcomes :
    outcomeOf (metered (liveAt .live 100 0) .vacant) (reading 1 0 0) 1 = .unknownMeter ∧
    outcomeOf (metered (liveAt .live 100 0) .vacant) (reading 0 100 2) 0 = .doubtful ∧
    outcomeOf (metered (liveAt .live 100 0) .vacant) (reading 0 1000000 0) 0 = .outOfRange ∧
    outcomeOf (metered (liveAt .unseen 100 0) .vacant) (reading 0 999999 0) 0 = .baseline ∧
    outcomeOf (metered { liveAt .live 100 0 with lastTag := 60 } .vacant) (reading 0 100 0) 0 = .duplicate ∧
    outcomeOf (metered (liveAt .live 100 0) .vacant) (reading 0 99 0) 0 = .backward ∧
    outcomeOf (metered (liveAt .live 100 0) .vacant) (reading 0 767 0) 0 = .implausible ∧
    outcomeOf (metered (liveAt .live 100 0) .opening) (reading 0 766 0) 0 = .taken ∧
    outcomeOf (metered (liveAt .live 100 5) .closing) (reading 0 766 1) 0 = .taken := by
  simp [outcomeOf, metered, running, aMeter, liveAt, reading, MeterLive.initial, deltaOf, elapsedOf, readingQuality,
    readingCounter, readingTag, bits, State.reset, State.powerOn, Plan.initial, MeterEntry.initial, Scale.wh]

theorem test_meets_ReadingTakeGivesOneOutcome :
    ∃ (s : State) (r : QueuedReading) (m : MeterId), s.capture.queue = [r] ∧ s.close = none ∧
      m.val = readingMeter r.words ∧ m = 511 :=
  ⟨queued (reading 511 0 0) running, _, 511, rfl, rfl, by decide, rfl⟩

theorem test_meets_ReadingTurnedAway : 511 < readingMeter (reading 512 0 0).words := by decide

/-- The fresh test: the meter's slot is OPENING, and its flag clear. -/
theorem test_meets_ApplyingRecordsAreTalliedAndMakeFresh :
    makesFresh (metered (liveAt .live 100 0) .opening) 0 = true ∧
      makesFresh (metered (liveAt .live 100 0) .vacant) 0 = false ∧ skewOf (reading 0 0 0) = false ∧
      skewOf { reading 0 0 0 with capture := 661 } = true := by
  refine ⟨?_, ?_, by decide, by decide⟩ <;> simp [makesFresh, metered, aMeter, OccRecord.initial]

/-! ### Transactions -/

theorem test_meets_PassThroughTransactionsAreTaken :
    (∃ t : WriteTxn, PassThrough running t.addr ∧ t.aligned = true ∧ t.addr.toNat = 0x10440) ∧
    (∃ t : ReadTxn, PassThrough running t.addr ∧ t.aligned = true ∧ t.addr.toNat = 0x40000) ∧
    (∃ (t : ReadTxn) (off : Nat), At running t.addr off ∧ off = 0x103FC ∧ t.aligned = true) ∧
    Overlaps (aWrite 0x40000) (aRead 0x40000) ∧ ¬ Overlaps (aWrite 0x3FFFC) (aRead 0x40000) :=
  ⟨⟨aWrite 0x10440, .inr ⟨0x10440, rfl, .inl (by decide)⟩, by decide, rfl⟩,
    ⟨aRead 0x40000, .inr ⟨0x40000, rfl, .inr (.inr (by decide))⟩, by decide, rfl⟩,
    ⟨aRead 0x103FC, 0x103FC, rfl, rfl, by decide⟩,
    (covers_iff_overlaps _ _).mp (by decide), fun h => absurd ((covers_iff_overlaps _ _).mpr h) (by decide)⟩

theorem test_meets_RingAccessIsGuarded :
    ∃ (s : State) (off : Nat), UpstreamFree s ∧ At s (aWrite 0x20040).addr off ∧ off = 0x20040 ∧
      BitVec.ofNat 11 ((off - 0x20000) / 64) = s.out.w ∧ s.out.active ≠ none ∧ ¬ Unexported s.out s.out.w ∧
      Unexported s.out 0 :=
  ⟨writing .first 1 none, 0x20040, rfl, rfl, rfl, by decide, by decide,
    fun h => absurd ((unexported_iff (by decide) _).mpr h) (by decide),
    (unexported_iff (by decide) _).mp (by decide)⟩

theorem test_meets_RefusedAtTheDecision :
    (Txn.write { addr := 0x10404, len := .w2, data := [0, 0], enables := [15, 15] }).aligned = false ∧
    At running (aWrite 0x1D1FC).addr 0x1D1FC ∧ At running (aWrite 0x1043C).addr 0x1043C ∧
      (0x1043C - 0x10400) / 4 ∈ [0, 1, 8, 9, 10, 12, 13, 14, 15] := ⟨by decide, rfl, rfl, by decide⟩

/-- The first and last words of the claimed ranges, by the longest and the shortest read. -/
theorem test_meets_ClaimedReadsShowTheState :
    (∃ t : ReadTxn, At running t.addr 0x10420 ∧ t.aligned = true ∧ t.len = .w8 ∧
      0x10420 + 4 * 7 = 0x10400 + 4 * 15) ∧
    (At running (aRead 0x18FFC).addr 0x18FFC ∧ (aRead 0x18FFC).aligned = true ∧
      0x18FFC + 4 * 0 = 0x11000 + 128 * (255 : UnitId).val + 4 * 31) ∧
    (At running (aRead 0x1CFFC).addr 0x1CFFC ∧ 0x1CFFC + 4 * 0 = 0x19000 + 32 * (511 : MeterId).val + 4 * 7) ∧
    (At running (aRead 0x1D1FC).addr 0x1D1FC ∧ 0x1D1FC + 4 * 0 = 0x1D000 + 16 * (31 : ZoneId).val + 4 * 3) :=
  ⟨⟨{ addr := 0x10420, len := .w8, enables := List.replicate 8 15 }, rfl, by decide, rfl, by decide⟩,
    ⟨rfl, by decide, by decide⟩, ⟨rfl, by decide⟩, rfl, by decide⟩

/-- The INTERVAL word at a boundary of 900 s (R182), and a figure beyond 16 bits in kWh (R184). -/
theorem test_layouts :
    statusWord running 15 = 1 ∧ figurePair (-32769000) 32768999 = 0x7FFF8000 ∧
      clampField 32 (-2147483649) = 0x80000000 := by decide

theorem test_meets_PlanWriteIsAccepted :
    ∃ (s : State) (t : WriteTxn) (off : Nat) (q : Quad), UpstreamFree s ∧ At s t.addr off ∧ off = 0xFFF0 ∧
      t.aligned = true ∧ t.len = .w4 ∧ t.enables = [15, 15, 15, 15] ∧ t.data = [q.w0, q.w1, q.w2, q.w3] ∧
      decodeEntry (off / 16) q = some (.key 2047 { zone := none, unit := 0, factor := 0 }) ∧ s.locked = false ∧
      s.link.posted.length = 7 ∧ s.status.mode = .running ∧ s.changes.length = 31 :=
  ⟨{ running with
      changes := List.replicate 31 { entry := 1, words := { w0 := 0, w1 := 0, w2 := 0, w3 := 0 } }
      link := { running.link with posted := List.replicate 7 (aWrite 0), reqDrain := true } },
    quadWrite 0xFFF0 { w0 := 63, w1 := 0, w2 := 0, w3 := 0 }, 0xFFF0, { w0 := 63, w1 := 0, w2 := 0, w3 := 0 }, rfl,
    rfl, rfl, by decide, rfl, rfl, rfl, by decide, rfl, rfl, rfl, rfl⟩

theorem test_meets_PlanWriteIsTurnedAway :
    decodeEntry (0x0010 / 16) { w0 := 0, w1 := 0, w2 := 0, w3 := 0 } = none ∧
    (∃ p, decodeEntry (0x4500 / 16) { w0 := 0, w1 := 0, w2 := 0, w3 := 0 } = some (.weekMap p)) ∧
    decodeEntry 0 { w0 := 2, w1 := 0, w2 := 0, w3 := 0 } = some (.header { len := .s3600, lockEnable := false }) ∧
    running.plan.header.len ≠ .s3600 := ⟨by decide, ⟨_, rfl⟩, by decide, by decide⟩

/-! ### Memory's answers and the arbiter -/

theorem test_meets_AnswersAndTimeoutsEndTheAccess :
    (∃ s : State, s.link.port = some (.drain (aWrite 0))) ∧ (∃ s : State, s.link.port = some (.read (aRead 0))) ∧
    (∃ s : State, s.link.port = some (.secondBurst (aWrite 0))) ∧
    (∃ s : State, s.link.port = some (.drain (aWrite 0)) ∧ s.link.posted.tail ≠ [] ∧ s.link.waits .read = true) ∧
    ∃ s : State, s.link.port = some (.disregarded (.read (aRead 0))) ∧ ∀ r, s.link.waits r = false :=
  ⟨⟨{ running with link := { Link.initial with port := some (.drain (aWrite 0)), posted := [aWrite 0] } }, rfl⟩,
    ⟨{ running with link := { Link.initial with port := some (.read (aRead 0)), forwarded := some (aRead 0) } }, rfl⟩,
    ⟨writing .second 0 _, rfl⟩,
    ⟨{ running with link := { Link.initial with
        port := some (.drain (aWrite 0)), posted := [aWrite 0, aWrite 4], forwarded := some (aRead 0)
        reqRead := true } }, rfl, by simp, rfl⟩,
    ⟨{ running with link := { Link.initial with port := some (.disregarded (.read (aRead 0))) } }, rfl,
      by intro r; cases r <;> rfl⟩⟩

theorem test_meets_GrantFollowsTheOrder :
    ∃ (s : State) (above below : List Requester), s.link.order.Perm [.drain, .read, .writeOut] ∧
      s.link.port = none ∧ s.link.order = above ++ .read :: below ∧ (∀ x ∈ above, s.link.waits x = false) ∧
      s.link.waits .read = true ∧ s.link.waits .writeOut = true ∧ above ≠ [] :=
  ⟨{ running with link := { Link.initial with forwarded := some (aRead 0), reqRead := true, reqWriteOut := true } },
    [.drain], [.writeOut], .refl _, rfl, rfl, by simp [Link.waits, Link.initial], rfl, rfl, by decide⟩

/-! ### Write-out -/

/-- A channel that may start: channel P with the statement of slot 1, the ring at its last free slot; a record that
waits, behind a posted write to the last word of slot W and behind none; a first burst at the port. -/
theorem test_meets_RecordIsWrittenInTwoBursts :
    (∃ s : State, s.out.active = none ∧ s.out.u + 1 = 2048 ∧ s.out.chanP.state = .pending ∧
      s.out.chanI.state ≠ .pending ∧ s.snapshots[(1 : UnitId)] ≠ none ∧ s.period.trailer = none) ∧
    (∃ (s : State) (r : Record), s.out.record = some r ∧ r.step = .waiting ∧ s.out.active ≠ none ∧
      s.link.port = none ∧ ∀ w ∈ s.link.posted, w.addr.toNat + 4 * w.len.words ≤ 0x20000 + 64 * s.out.w.toNat ∨
        0x20000 + 64 * s.out.w.toNat + 64 ≤ w.addr.toNat) ∧
    (∃ (s : State) (r : Record), s.out.record = some r ∧
      ∃ w ∈ s.link.posted, w.addr.toNat < 0x20000 + 64 ∧ 0x20000 < w.addr.toNat + 4 * w.len.words) ∧
    ∃ (s : State) (w : WriteTxn) (r : Record), s.link.port = some (.firstBurst w) ∧ s.out.record = some r :=
  ⟨⟨{ running with
        snapshots := running.snapshots.set 1 (some (aStatement true false))
        out := { WriteOut.initial with u := 2047, w := 2047, chanP := ⟨.pending, .complete⟩ } }, by decide, rfl, rfl,
      by decide, by simp, rfl⟩,
    ⟨writing .waiting 2047 none, _, rfl, rfl, by decide, rfl, by simp [writing, Link.initial]⟩,
    ⟨{ writing .waiting 0 none with link := { Link.initial with posted := [aWrite 0x2003C], reqDrain := true } }, _,
      rfl, aWrite 0x2003C, by simp, by decide, by decide⟩,
    writing .first 0 (some (.firstBurst (aWrite 0))), _, _, rfl, rfl⟩

theorem test_meets_RecordCompleteReleasesItsItem :
    ∃ (s : State) (w : WriteTxn) (r : Record), WriteOutInv s ∧ s.link.port = some (.secondBurst w) ∧
      s.out.active = some .i ∧ s.out.record = some r ∧ s.out.u + 1 = 2048 :=
  ⟨_, aWrite 0, _, writing_WriteOutInv .second 2047 (by omega) _, rfl, rfl, rfl, rfl⟩

theorem test_meets_RecordAbandonedKeepsItsItem :
    (∃ (s : State) (w : WriteTxn), WriteOutInv s ∧ s.link.port = some (.firstBurst w) ∧ s.out.active = some .i) ∧
    ∃ (s : State) (r : Record) (x : Statement), s.out.active = some .p ∧ s.out.record = some r ∧
      r.item = .statement 1 ∧ s.snapshots[(1 : UnitId)] = some x :=
  ⟨⟨_, aWrite 0, writing_WriteOutInv .first 0 (by omega) _, rfl, rfl⟩,
    { running with
      snapshots := running.snapshots.set 1 (some (aStatement true false))
      out := { WriteOut.initial with
        chanP := ⟨.active, .complete⟩, lastActive := .p, record := some ⟨.statement 1, [], .first⟩ } },
    _, aStatement true false, rfl, rfl, rfl, by simp⟩

/-- A FINAL statement formed before stage 7 and abandoned: its snapshot, marked since, keeps the words it was formed
with, and the rewrite carries them with the new sequence number (R184). -/
theorem test_rewrite_keeps_words :
    ∃ (s : State) (x : Statement), (keepItem s).snapshots[(1 : UnitId)] = some x ∧ x.mark = false ∧
      recordWords { s with
          snapshots := s.snapshots.set 1 (some { x with mark := true }), out := { s.out with seq := 7 } } (.statement 1) =
        (recordWords s (.statement 1)).set 1 7 := by
  refine ⟨{ running with
      snapshots := running.snapshots.set 1 (some (aStatement true false))
      out := { WriteOut.initial with
        chanP := ⟨.active, .complete⟩
        record := some ⟨.statement 1, statementWords 1 (aStatement true false) 0, .first⟩ } },
    { aStatement true false with formed := some (statementWords 1 (aStatement true false) 0) }, ?_, rfl, ?_⟩
  · simp [keepItem]
  · rw [recordWords_again (x := { aStatement true false with
        mark := true, formed := some (statementWords 1 (aStatement true false) 0) }) (by simp) rfl,
      recordWords_first (x := aStatement true false) (by simp) rfl]
    rfl

theorem test_meets_ExportReleasesSlots :
    ∃ (s : State) (n : Word), UpstreamFree s ∧ s.out.u ≤ 2048 ∧ n ≠ 0 ∧ n.toNat = s.out.u ∧
      s.out.chanI.state = .waitingExport :=
  ⟨{ running with out := { WriteOut.initial with
      u := 2048, holding := [aSummary], chanI := ⟨.waitingExport, .complete⟩ } }, 2048, rfl, by decide, by decide, rfl,
    rfl⟩

theorem test_meets_RecordsCarryTheirLayouts :
    (∃ s : State, s.out.holding ≠ []) ∧
    (∃ (s : State) (u : UnitId) (x : Statement), s.snapshots[u] = some x ∧ x.formed = none) ∧
    (∃ (s : State) (u : UnitId) (x : Statement), s.snapshots[u] = some x ∧ x.formed = some [0]) ∧
    ∃ s : State, s.period.trailer ≠ none :=
  ⟨⟨writing .waiting 0 none, by simp [writing]⟩,
    ⟨{ running with snapshots := running.snapshots.set 1 (some (aStatement true true)) }, 1, aStatement true true,
      by simp, rfl⟩,
    ⟨{ running with snapshots := running.snapshots.set 1 (some { aStatement true true with formed := some [0] }) }, 1,
      { aStatement true true with formed := some [0] }, by simp, rfl⟩,
    { running with period := { running.period with trailer := some (trailerOf 0 []) } }, by simp⟩

theorem test_meets_UnexportedSlotsAreNeverWritten :
    ∃ s : State, WriteOutInv s ∧ s.out.active = some .i ∧ s.out.u = 2047 :=
  ⟨_, writing_WriteOutInv .first 2047 (by omega) none, rfl, rfl⟩

theorem test_meets_PeriodCommandsAreJudged :
    (∃ s : State, UpstreamFree s ∧ s.status.mode = .running ∧ s.period.pending = false ∧ s.period.trailer = none ∧
      ∀ (u : UnitId) (x : Statement), s.snapshots[u] = some x → x.mark = false) ∧
    (∃ s : State, UpstreamFree s ∧ s.status.mode = .running ∧ s.period.pending = false ∧ s.period.trailer ≠ none) ∧
    ∃ s : State, UpstreamFree s ∧ (∃ u : UnitId, s.snapshots[u] ≠ none) ∧ s.out.chanP.state = .idle :=
  ⟨⟨running, rfl, rfl, rfl, rfl, by intro u x h; simp [running, State.reset, State.powerOn] at h⟩,
    ⟨{ running with period := { running.period with trailer := some (trailerOf 0 []) } }, rfl, rfl, rfl, by simp⟩,
    { running with snapshots := running.snapshots.set 1 (some (aStatement false false)) }, rfl, ⟨1, by simp⟩, rfl⟩

/-! ### Status and occupancy -/

theorem test_meets_StartEntersRunning :
    (∃ s : State, UpstreamFree s ∧ s.status.mode = .loading ∧ s.clock.quality ≠ .unset ∧
      startFailure s.plan = none) ∧
    (∃ s : State, UpstreamFree s ∧ s.status.mode = .loading ∧ s.clock.quality = .unset) ∧
    startMeter { Plan.initial with meters := Plan.initial.meters.set 0 aMeter } 0 = some (.unitUndefined, 512) :=
  ⟨⟨{ State.reset with clock := { State.reset.clock with quality := .good } }, rfl, rfl, by decide,
      startFailure_initial⟩, ⟨State.reset, rfl, rfl, rfl⟩, by
      simp [startMeter, aMeter, Plan.undefinedSlot, Plan.initial]⟩

theorem test_meets_ClearReturnsTheBillingState :
    ∃ s : State, UpstreamFree s ∧ s.status.armed = true ∧ s.close = none ∧ s.locked = false ∧ WriteOutInv s ∧
      s.out.active = some .i :=
  ⟨{ writing .first 0 none with status := { running.status with armed := true } }, rfl, rfl, rfl, rfl, by
    obtain ⟨a, b, c, d, e, f, g, h, i, j⟩ := writing_WriteOutInv .first 0 (by omega) none
    exact ⟨a, b, c, d, e, f, g, h, i, j⟩, rfl⟩

theorem test_meets_UnknownCodesAreBadArguments :
    ∃ c : BitVec 8, c ≠ 1 ∧ c ≠ 2 ∧ c ≠ 3 ∧ c ≠ 4 ∧ c ≠ 5 ∧ c ≠ 6 ∧ c = 255 := ⟨255, by decide⟩

theorem test_meets_OpenAdmitsATenant :
    ∃ s : State, UpstreamFree s ∧ s.status.mode = .running ∧ s.occ[(255 : UnitId)].state = .vacant ∧
      s.plan.units[(255 : UnitId)].area ≠ 0 :=
  ⟨{ running with plan := { running.plan with units := running.plan.units.set 255 { area := 1, tariff := 0 } } },
    rfl, rfl, by show occInitial[(255 : UnitId)].state = _; rw [occInitial_get]; rfl, by
      show (running.plan.units.set 255 _)[255].area ≠ 0
      rw [Vector.getElem_set_self]
      decide⟩

theorem test_meets_CloseEndsATenancy :
    ∃ s : State, UpstreamFree s ∧ s.status.mode = .running ∧ s.occ[(1 : UnitId)].state = .opening :=
  ⟨metered (liveAt .live 0 0) .opening, rfl, rfl, by simp [metered, OccRecord.initial]⟩

theorem test_meets_ForceAndCancelActOnAClosingSlot :
    ∃ s : State, UpstreamFree s ∧ s.status.mode = .running ∧ s.occ[(1 : UnitId)].state = .closing :=
  ⟨metered (liveAt .live 0 0) .closing, rfl, rfl, by simp [metered, OccRecord.initial]⟩

theorem test_meets_PlanEntriesAndTheirBytesAgree :
    (PlanEntry.meter 511 { aMeter with kind := .zone, binding := 29, digits := 9, ratedMax := 4000000 }).inRange ∧
      (PlanEntry.holiday 15 { day := 49710, profile := 3 }).inRange := by
  refine ⟨⟨fun _ => by decide, by decide, by decide, by decide, by decide⟩, ?_⟩
  show (49710#16).toNat ≤ 49710
  decide

end Sys2Proof.Tests
end

section
/-! SUPPORT. The occupancy records stay in order at every step (R94, R98, R103, R105, R107, R165): what each operation
of the device does to the slots, the bound meters' fresh flags and the mode. -/

namespace Sys2Proof.Machine

/-! ## Reading tables of slots and meters -/

/-- What a table holds at index `j` after index `i` has been written. -/
theorem getElem_set_fin {α : Type} {n : Nat} (v : Vector α n) (i j : Fin n) (x : α) :
    (v.set i x)[j] = if i = j then x else v[j] := by
  simp only [Fin.getElem_fin, Vector.getElem_set, Fin.ext_iff]

/-- What a table built index by index holds. -/
theorem getElem_ofFn_fin {α : Type} {n : Nat} (f : Fin n → α) (i : Fin n) : (Vector.ofFn f)[i] = f i := by
  simp only [Fin.getElem_fin, Vector.getElem_ofFn]

/-- What a table holds after every entry has been rewritten. -/
theorem getElem_map_fin {α β : Type} {n : Nat} (f : α → β) (v : Vector α n) (i : Fin n) :
    (v.map f)[i] = f v[i] := by
  simp only [Fin.getElem_fin, Vector.getElem_map]

/-- A table filled with one value holds it everywhere. -/
theorem getElem_replicate_fin {α : Type} {n : Nat} (x : α) (i : Fin n) : (Vector.replicate n x)[i] = x := by
  simp only [Fin.getElem_fin, Vector.getElem_replicate]

/-! ## The count of bound meters that are not fresh -/

/-- The count depends on which meters are bound to the slot, and on their fresh flags, alone. -/
theorem staleCount_congr {p q : Plan} {l k : Vector MeterLive 512} {u : UnitId}
    (hb : ∀ m : MeterId, q.bound u m = p.bound u m)
    (hf : ∀ m : MeterId, p.bound u m = true → k[m].fresh = l[m].fresh) :
    staleCount q k u = staleCount p l u := by
  unfold staleCount
  refine List.countP_congr fun m _ => ?_
  rw [hb]
  cases h : p.bound u m
  · rfl
  · rw [hf m h]

/-- A meter is bound to one slot at most. -/
theorem Plan.bound_unique {p : Plan} {u v : UnitId} {m : MeterId} (hu : p.bound u m = true)
    (hv : p.bound v m = true) : u = v := by
  simp only [Plan.bound, Bool.and_eq_true, beq_iff_eq] at hu hv
  exact hu.2.symm.trans hv.2

/-- What a slot's command leaves in the live fields of a meter. -/
theorem clearFresh_live (u : UnitId) (s : State) (m : MeterId) :
    (clearFresh u s).live[m] = if s.plan.bound u m then { s.live[m] with fresh := false } else s.live[m] :=
  getElem_ofFn_fin _ m

/-- After a slot's command none of its bound meters is fresh (R103). -/
theorem staleCount_clearFresh (u : UnitId) (s : State) :
    staleCount s.plan (clearFresh u s).live u = s.plan.boundCount u := by
  unfold staleCount Plan.boundCount
  refine List.countP_congr fun m _ => ?_
  rw [clearFresh_live]
  cases h : s.plan.bound u m <;> simp

/-- A slot's command leaves the meters bound to another slot as fresh as they were. -/
theorem clearFresh_live_other {u v : UnitId} (s : State) (h : v ≠ u) (m : MeterId)
    (hv : s.plan.bound v m = true) : (clearFresh u s).live[m].fresh = s.live[m].fresh := by
  have hu : ¬ s.plan.bound u m = true := fun hu => h (Plan.bound_unique hv hu)
  rw [clearFresh_live, if_neg hu]

/-- A test that fails at one index more counts one index less. -/
theorem countP_finRange_succ {n : Nat} {f g : Fin n → Bool} {m : Fin n} (hf : f m = true) (hg : g m = false)
    (h : ∀ j, j ≠ m → g j = f j) : (List.finRange n).countP f = (List.finRange n).countP g + 1 := by
  have hperm := List.perm_cons_erase (List.mem_finRange m)
  have hrest : ((List.finRange n).erase m).countP g = ((List.finRange n).erase m).countP f :=
    List.countP_congr fun j hj => by
      rw [h j fun e => List.Nodup.not_mem_erase (List.nodup_finRange n) (e ▸ hj)]
  rw [hperm.countP_eq, hperm.countP_eq, List.countP_cons, List.countP_cons, hrest, hf, hg]
  rfl

/-- One meter of a slot becoming fresh lowers the slot's count by 1 (R103). -/
theorem staleCount_setFresh {p : Plan} {l : Vector MeterLive 512} {u : UnitId} {m : MeterId} {x : MeterLive}
    (hb : p.bound u m = true) (hl : l[m].fresh = false) (hx : x.fresh = true) :
    staleCount p (l.set m x) u = staleCount p l u - 1 := by
  have hcount : staleCount p l u = staleCount p (l.set m x) u + 1 := by
    refine countP_finRange_succ (m := m) ?_ ?_ fun j hj => ?_
    · rw [hb, hl]; rfl
    · rw [getElem_set_fin, if_pos rfl, hb, hx]; rfl
    · rw [getElem_set_fin, if_neg (Ne.symm hj)]
  omega

/-! ## How the invariant is kept -/

/-- From `s` to `t` the mode stands, and the occupancy invariant is kept. -/
structure OccStable (s t : State) : Prop where
  mode : t.status.mode = s.status.mode
  inv : OccupancyInv s → OccupancyInv t

theorem OccStable.refl (s : State) : OccStable s s := ⟨rfl, id⟩

theorem OccStable.trans {s t r : State} (h : OccStable s t) (k : OccStable t r) : OccStable s r :=
  ⟨k.mode.trans h.mode, k.inv ∘ h.inv⟩

/-- The mode is LOADING or RUNNING. -/
theorem running_of_not_loading {s : State} (h : s.status.mode ≠ .loading) : s.status.mode = .running := by
  cases hm : s.status.mode
  · exact absurd hm h
  · rfl

theorem State.running_iff (s : State) : s.running = true ↔ s.status.mode = .running := by
  simp [State.running]

/-- A close in progress shows that the mode is RUNNING. -/
theorem OccupancyInv.running_of_close {s : State} {c : Close} (h : OccupancyInv s) (hc : s.close = some c) :
    s.status.mode = .running := by
  refine running_of_not_loading fun hm => ?_
  obtain ⟨_, _, _, _, hclose, _, _⟩ := h.loading hm
  exact absurd (hc.symm.trans hclose) (by simp)

/-- A waiting slot waits for its bound meters that are not fresh (R103). -/
theorem OccupancyInv.outstanding_waiting {s : State} (h : OccupancyInv s) {u : UnitId}
    (hw : s.occ[u].state.waits = true) : s.occ[u].outstanding = staleCount s.plan s.live u := by
  rw [h.outstanding u, if_pos hw]

/-- A slot that does not wait has no outstanding readings. -/
theorem OccupancyInv.outstanding_idle {s : State} (h : OccupancyInv s) {u : UnitId}
    (hw : s.occ[u].state.waits = false) : s.occ[u].outstanding = 0 := by
  rw [h.outstanding u, hw, if_neg Bool.false_ne_true]

/-- A slot that waits is not slot 0. -/
theorem OccupancyInv.ne_zero_of_waits {s : State} (h : OccupancyInv s) {u : UnitId}
    (hw : s.occ[u].state.waits = true) : u ≠ 0 := by
  rintro rfl
  rw [h.landlord.1] at hw
  exact absurd hw (by decide)

/-- In LOADING no slot waits. -/
theorem LoadingConditions.waits {s : State} (h : LoadingConditions s) (u : UnitId) :
    s.occ[u].state.waits = false := by
  obtain ⟨_, _, hocc, _⟩ := h
  rcases hocc u with hu | hu <;> rw [hu] <;> rfl

/-- The records, the plan's meters, the live fields and the mode stand, and LOADING finds what it takes for granted. -/
theorem OccStable.of_same {s t : State} (hm : t.status.mode = s.status.mode) (ho : t.occ = s.occ)
    (hp : t.plan.meters = s.plan.meters) (hl : t.live = s.live)
    (hL : s.status.mode = .loading → LoadingConditions s → LoadingConditions t) : OccStable s t where
  mode := hm
  inv h :=
    { landlord := by rw [ho]; exact h.landlord
      outstanding := fun u => by
        have hbound : ∀ m : MeterId, t.plan.bound u m = s.plan.bound u m := fun m => by unfold Plan.bound; rw [hp]
        rw [ho, hl, h.outstanding u, staleCount_congr hbound fun _ _ => rfl]
      deadline := by rw [ho]; exact h.deadline
      loading := fun hload => hL (hm ▸ hload) (h.loading (hm ▸ hload)) }

/-- A fresh flag that no event moves leaves every count as it was. -/
theorem OccupancyInv.live {s : State} (h : OccupancyInv s) {l : Vector MeterLive 512}
    (hf : ∀ m : MeterId, l[m].fresh = s.live[m].fresh) : OccupancyInv { s with live := l } where
  landlord := h.landlord
  outstanding u := by
    rw [staleCount_congr (p := s.plan) (l := s.live) (fun _ => rfl) fun m _ => hf m]
    exact h.outstanding u
  deadline := h.deadline
  loading := h.loading

/-- In LOADING the plan tables and the live fields may change in any way: no slot waits. -/
theorem OccupancyInv.tables {s : State} (h : OccupancyInv s) (hm : s.status.mode = .loading) (p : Plan)
    (l : Vector MeterLive 512) : OccupancyInv { s with plan := p, live := l } where
  landlord := h.landlord
  outstanding u := by
    have hw := (h.loading hm).waits u
    rw [h.outstanding_idle hw]
    exact (if_neg (hw ▸ Bool.false_ne_true)).symm
  deadline := h.deadline
  loading := h.loading

/-- One slot's record is replaced, and the fresh flags of its own meters may move. -/
theorem OccupancyInv.setSlot {s : State} (h : OccupancyInv s) {u : UnitId} {r : OccRecord}
    {l : Vector MeterLive 512} (hu : u ≠ 0) (hd : r.deadline ≤ 8)
    (ho : r.outstanding = if r.state.waits then staleCount s.plan l u else 0)
    (hf : ∀ v : UnitId, v ≠ u → ∀ m : MeterId, s.plan.bound v m = true → l[m].fresh = s.live[m].fresh)
    (hr : s.status.mode = .loading → r.state = .vacant ∨ r.state = .occupied) :
    OccupancyInv { s with occ := s.occ.set u r, live := l } where
  landlord := by
    simp only [getElem_set_fin, if_neg hu]
    exact h.landlord
  outstanding v := by
    simp only [getElem_set_fin]
    by_cases hv : u = v
    · subst hv
      simpa only [if_true] using ho
    · simp only [if_neg hv]
      rw [staleCount_congr (p := s.plan) (l := s.live) (fun _ => rfl) (hf v (Ne.symm hv))]
      exact h.outstanding v
  deadline v := by
    simp only [getElem_set_fin]
    split
    · exact hd
    · exact h.deadline v
  loading hm := by
    obtain ⟨hch, hsn, hocc, hrest⟩ := h.loading hm
    refine ⟨hch, hsn, fun v => ?_, hrest⟩
    simp only [getElem_set_fin]
    split
    · exact hr hm
    · exact hocc v

/-! ## Events that leave every slot as it is -/

theorem raise_occStable (c : Cause) (s : State) : OccStable s (raise c s) :=
  .of_same rfl rfl rfl rfl fun _ => id

theorem raiseIf_occStable (b : Bool) (c : Cause) (s : State) : OccStable s (raiseIf b c s) := by
  cases b
  · exact .refl s
  · exact raise_occStable c s

theorem respond_occStable (r : Response) (s : State) : OccStable s (respond r s) :=
  .of_same rfl rfl rfl rfl fun _ => id

theorem acceptWrite_occStable (s : State) : OccStable s (acceptWrite s) := respond_occStable _ s

theorem disarm_occStable (s : State) : OccStable s (disarm s) := .of_same rfl rfl rfl rfl fun _ => id

theorem OccStable.out (s : State) (o : WriteOut) : OccStable s { s with out := o } :=
  .of_same rfl rfl rfl rfl fun _ => id

theorem OccStable.link (s : State) (l : Link) : OccStable s { s with link := l } :=
  .of_same rfl rfl rfl rfl fun _ => id

/-- The clock may move in any way that keeps the interval sequence number in LOADING. -/
theorem OccStable.clock {s : State} {k : Clock} (h : s.status.mode = .loading → k.seq = s.clock.seq) :
    OccStable s { s with clock := k } := by
  refine .of_same rfl rfl rfl rfl fun hm hL => ?_
  obtain ⟨hch, hsn, hocc, hseq, hrest⟩ := hL
  exact ⟨hch, hsn, hocc, (h hm).trans hseq, hrest⟩

/-! ### The port -/

theorem grant_occStable (s : State) : OccStable s (grant s) := by
  obtain ⟨l, h⟩ := grant_frame s
  rw [h]
  exact .link s l

theorem postWrite_occStable (t : WriteTxn) (s : State) : OccStable s (postWrite t s) := by
  obtain ⟨l, a, h⟩ := postWrite_frame t s
  rw [h]
  exact .of_same rfl rfl rfl rfl fun _ => id

theorem endDrain_occStable (s : State) : OccStable s (endDrain s) := by
  obtain ⟨l, h⟩ := endDrain_frame s
  rw [h]
  exact .link s l

theorem discardDrain_occStable (s : State) : OccStable s (discardDrain s) :=
  ((OccStable.link s _).trans (raise_occStable .memoryFault _)).trans (endDrain_occStable _)

theorem endRead_occStable (r : Response) (s : State) : OccStable s (endRead r s) := by
  obtain ⟨l, a, h⟩ := endRead_frame r s
  rw [h]
  exact .of_same rfl rfl rfl rfl fun _ => id

theorem OccStable.grant_freePort {s t : State} (h : OccStable s t) : OccStable s (grant (freePort t)) :=
  (h.trans (.link t _)).trans (grant_occStable _)

/-! ### The channels -/

theorem enterWaiting_occStable (c : Channel) (s : State) : OccStable s (enterWaiting c s) :=
  (OccStable.out s _).trans (raise_occStable .ringFull _)

theorem pendingToWaiting_occStable (c : Channel) (s : State) : OccStable s (pendingToWaiting c s) := by
  unfold pendingToWaiting
  split
  · exact enterWaiting_occStable c s
  · exact .refl s

theorem waitingToPending_occStable (c : Channel) (s : State) : OccStable s (waitingToPending c s) := by
  obtain ⟨o, h⟩ := waitingToPending_frame c s
  rw [h]
  exact .out s o

theorem choose_occStable (s : State) : OccStable s (choose s) := by
  unfold choose
  split
  · exact .refl s
  · split
    · split
      · split <;> exact .out s _
      · split
        · exact .out s _
        · exact .refl s
    · exact (pendingToWaiting_occStable .i s).trans (pendingToWaiting_occStable .p _)

theorem handWork_occStable (c : Channel) (s : State) : OccStable s (handWork c s) := by
  unfold handWork
  split
  · split
    · exact (OccStable.out s _).trans (choose_occStable _)
    · exact enterWaiting_occStable c s
  · exact .refl s

theorem offerSummary_occStable (x : Summary) (s : State) : OccStable s (offerSummary x s) := by
  have hand : ∀ t : State, OccStable t
      (handWork .i { t with out := { t.out with holding := t.out.holding ++ [x] } }) :=
    fun t => (OccStable.out t _).trans (handWork_occStable .i _)
  unfold offerSummary
  split
  · exact hand s
  · exact ((OccStable.out s _).trans (raise_occStable .summaryLost _)).trans (hand _)

theorem afterRecord_occStable (c : Channel) (s : State) : OccStable s (afterRecord c s) := by
  unfold afterRecord
  split
  · split
    · exact .out s _
    · exact enterWaiting_occStable c s
  · exact .out s _

theorem exportRecords_occStable (n : Nat) (s : State) : OccStable s (exportRecords n s) := by
  unfold exportRecords
  dsimp only
  split
  · exact .out s _
  · refine OccStable.trans ?_ (choose_occStable _)
    exact ((OccStable.out s _).trans (waitingToPending_occStable .i _)).trans (waitingToPending_occStable .p _)

/-! ### Snapshots -/

/-- Snapshots may be rewritten or released where none is taken in LOADING. -/
theorem OccStable.snapshots {s : State} {sn : Vector (Option Statement) 256}
    (h : ∀ u : UnitId, s.snapshots[u] = none → sn[u] = none) : OccStable s { s with snapshots := sn } := by
  refine .of_same rfl rfl rfl rfl fun _ hL => ?_
  obtain ⟨hch, hsn, hrest⟩ := hL
  exact ⟨hch, fun u => h u (hsn u), hrest⟩

/-- A record abandoned keeps its item. -/
theorem keepItem_occStable (s : State) : OccStable s (keepItem s) := by
  have hkept : ∀ u : UnitId, s.snapshots[u] = none → (keepItem s).snapshots[u] = none := by
    intro u hu
    have := (keepItem_kept s).held u
    rwa [hu, Option.isSome_none, Option.isSome_eq_false_iff, Option.isNone_iff_eq_none] at this
  obtain ⟨sn, h⟩ := keepItem_frame s
  rw [h] at hkept ⊢
  exact .snapshots hkept

theorem abandonRecord_occStable (c : Channel) (o : ChannelOutcome) (s : State) :
    OccStable s (abandonRecord c o s) := (keepItem_occStable s).trans (.out _ _)

theorem failRecord_occStable (s : State) : OccStable s (failRecord s) := by
  unfold failRecord
  split
  · exact ((abandonRecord_occStable _ _ s).trans (raise_occStable _ _)).trans (choose_occStable _)
  · exact .refl s

theorem cancelActive_occStable (s : State) : OccStable s (cancelActive s) := by
  unfold cancelActive
  split
  · exact (OccStable.link s _).trans (abandonRecord_occStable _ _ _)
  · exact .refl s

/-- A FINAL statement written releases its CLOSED slot to VACANT (R111): neither waits for readings. -/
theorem releaseItem_occStable (it : Item) (s : State) : OccStable s (releaseItem it s) := by
  cases it with
  | summary => exact .out s _
  | trailer =>
    refine OccStable.trans (t := { s with period := { s.period with trailer := none } }) ?_ (raise_occStable _ _)
    refine .of_same rfl rfl rfl rfl fun _ hL => ?_
    obtain ⟨hch, hsn, hocc, hseq, hclose, hpend, _⟩ := hL
    exact ⟨hch, hsn, hocc, hseq, hclose, hpend, rfl⟩
  | statement u =>
    have released : OccStable s { s with snapshots := s.snapshots.set u none } := by
      refine .snapshots fun v hv => ?_
      rw [getElem_set_fin]
      split
      · rfl
      · exact hv
    unfold releaseItem
    dsimp only
    split
    · split
      · rename_i x _ hx
        refine (released.trans ?_).trans (raise_occStable .unitChanged (setOcc u { s.occ[u] with state := .vacant }
          { s with snapshots := s.snapshots.set u none }))
        refine ⟨rfl, fun h => ?_⟩
        have hu : u ≠ 0 := by
          rintro rfl
          exact absurd (hx.2.symm.trans h.landlord.1) (by decide)
        refine h.setSlot (l := s.live) hu (h.deadline u) ?_ (fun _ _ _ _ => rfl) fun _ => .inl rfl
        have hout := h.outstanding u
        simp only [hx.2] at hout
        exact hout
      · exact released
    · exact released

theorem completeRecord_occStable (c : Channel) (s : State) : OccStable s (completeRecord c s) := by
  unfold completeRecord
  dsimp only
  refine OccStable.trans ?_ (choose_occStable _)
  refine OccStable.trans ?_ (afterRecord_occStable c _)
  split
  · exact (OccStable.out s _).trans (releaseItem_occStable _ _)
  · exact .out s _

/-! ## Unit commands -/

/-- OPEN is answered DONE for a slot 1..255 alone (R98). -/
theorem openOutcome_done {s : State} {u : UnitId} (h : openOutcome s u = .done) : u ≠ 0 := by
  rintro rfl
  exact absurd h (by simp [openOutcome])

/-- CLOSE is answered DONE for a slot 1..255 alone (R98). -/
theorem closeOutcome_done {s : State} {u : UnitId} (h : closeOutcome s u = .done) : u ≠ 0 := by
  rintro rfl
  exact absurd h (by simp [closeOutcome])

/-- FORCE and CANCEL are answered DONE for a slot 1..255 alone (R98). -/
theorem closingOutcome_done {s : State} {u : UnitId} (h : closingOutcome s u = .done) : u ≠ 0 := by
  rintro rfl
  exact absurd h (by simp [closingOutcome])

/-- A command that gives a slot a new record and clears the fresh flags of its meters: a slot that then waits waits
for all of them (R99, R100, R103). -/
theorem OccupancyInv.command {s : State} (h : OccupancyInv s) {u : UnitId} {r : OccRecord} (hu : u ≠ 0)
    (hd : r.deadline ≤ 8)
    (ho : (r.state.waits = true ∧ r.outstanding = s.plan.boundCount u) ∨
      (r.state.waits = false ∧ r.outstanding = 0))
    (hr : s.status.mode = .loading → r.state = .vacant ∨ r.state = .occupied) :
    OccupancyInv (clearFresh u (setOcc u r s)) := by
  refine h.setSlot (l := (clearFresh u s).live) hu hd ?_ (fun _ hv => clearFresh_live_other s hv) hr
  rw [staleCount_clearFresh]
  rcases ho with ⟨hw, ho⟩ | ⟨hw, ho⟩
  · rw [hw, ho, if_pos rfl]
  · rw [hw, ho, if_neg Bool.false_ne_true]

theorem openEffect_occStable {u : UnitId} (hu : u ≠ 0) (s : State) : OccStable s (openEffect u s) := by
  unfold openEffect
  dsimp only
  split
  · rename_i hrun
    refine ⟨rfl, fun h => h.command hu (Nat.zero_le 8) (.inl ⟨rfl, by dsimp only⟩) fun hm => ?_⟩
    rw [State.running_iff, hm] at hrun
    exact absurd hrun (by decide)
  · refine OccStable.trans ?_ (raise_occStable .unitChanged _)
    exact ⟨rfl, fun h => h.command hu (Nat.zero_le 8) (.inr ⟨rfl, rfl⟩) fun _ => .inr rfl⟩

theorem closeEffect_occStable {u : UnitId} (hu : u ≠ 0) (s : State) : OccStable s (closeEffect u s) := by
  unfold closeEffect
  dsimp only
  split
  · rename_i hrun
    refine ⟨rfl, fun h => h.command hu (Nat.zero_le 8) (.inl ⟨rfl, by dsimp only⟩) fun hm => ?_⟩
    rw [Bool.and_eq_true, State.running_iff, hm] at hrun
    exact absurd hrun.1 (by decide)
  · refine OccStable.trans ?_ (raise_occStable .unitChanged _)
    exact ⟨rfl, fun h => h.command hu (Nat.zero_le 8) (.inr ⟨rfl, rfl⟩) fun _ => .inl rfl⟩

theorem cancelEffect_occStable {u : UnitId} (hu : u ≠ 0) (s : State) : OccStable s (cancelEffect u s) := by
  refine OccStable.trans ?_ (raise_occStable .unitChanged _)
  exact ⟨rfl, fun h => h.command hu (Nat.zero_le 8) (.inr ⟨rfl, rfl⟩) fun _ => .inr rfl⟩

theorem forceEffect_occStable {u : UnitId} (hu : u ≠ 0) (s : State) : OccStable s (forceEffect u s) := by
  refine ⟨rfl, fun h => ?_⟩
  refine h.setSlot (l := s.live) hu (h.deadline u) (h.outstanding u) (fun _ _ _ _ => rfl) fun hm => ?_
  obtain ⟨_, _, hocc, _⟩ := h.loading hm
  exact hocc u

/-- A unit command has its effect where it is answered DONE, and is recorded. -/
theorem unitCommand_occStable (code : BitVec 8) (u : UnitId) {o : CmdOutcome} {f : State → State} {s : State}
    (h : o = .done → OccStable s (f s)) : OccStable s (unitCommand code u o f s) := by
  have effect : OccStable s (if o = .done then f s else s) := by
    split
    · rename_i ho
      exact h ho
    · exact .refl s
  exact effect.trans (.of_same rfl rfl rfl rfl fun _ => id)

theorem unitCmdWrite_occStable (code : BitVec 8) (u : UnitId) (s : State) :
    OccStable s (unitCmdWrite code u s) := by
  unfold unitCmdWrite
  split
  · exact unitCommand_occStable _ _ fun h => openEffect_occStable (openOutcome_done h) s
  · exact unitCommand_occStable _ _ fun h => closeEffect_occStable (closeOutcome_done h) s
  · exact unitCommand_occStable _ _ fun h => forceEffect_occStable (closingOutcome_done h) s
  · exact unitCommand_occStable _ _ fun h => cancelEffect_occStable (closingOutcome_done h) s
  · exact unitCommand_occStable _ _ fun _ => .refl s

/-! ## Plan changes -/

/-- The kind is part of a meter's identity (R122). -/
theorem sameIdentity_kind {old new : MeterEntry} (h : sameIdentity old new = true) : old.kind = new.kind := by
  simp only [sameIdentity, Bool.and_eq_true, beq_iff_eq] at h
  obtain ⟨⟨⟨hk, _⟩, _⟩, _⟩ := h
  exact hk

/-- A meter whose identity stands keeps its live fields (R122). -/
theorem meterLiveAfter_same {old new : MeterEntry} (h : sameIdentity old new = true) (l : MeterLive) :
    meterLiveAfter old new l = l := by
  unfold meterLiveAfter
  rw [← sameIdentity_kind h]
  by_cases hu : old.kind = .unused
  · simp only [if_pos hu]
  · simp only [if_neg hu, h, if_true]

/-- A change that does not touch a slot leaves identity and binding, or concerns no meter of the slot (R105). -/
theorem touchesSlot_false {old new : MeterEntry} {u : UnitId} (h : touchesSlot old new u = false) :
    (sameIdentity old new = true ∧ old.binding = new.binding) ∨
      ((old.kind == .unit && old.binding == u) = false ∧ (new.kind == .unit && new.binding == u) = false) := by
  unfold touchesSlot at h
  rwa [Bool.and_eq_false_iff, Bool.not_eq_false', Bool.and_eq_true, beq_iff_eq, Bool.or_eq_false_iff] at h

theorem applyChange_meter_plan (i : MeterId) (x : MeterEntry) (s : State) :
    (applyChange (.meter i x) s).plan = { s.plan with meters := s.plan.meters.set i x } := by
  unfold applyChange occupancyAfterMeter
  dsimp only
  split <;> rfl

/-- The fresh flag of a rebound meter is cleared, on top of what its new entry does to its live fields. -/
theorem applyChange_meter_live (i : MeterId) (x : MeterEntry) (s : State) (m : MeterId) :
    (applyChange (.meter i x) s).live[m] =
      if i = m then
        if rebound s.plan.meters[i] x then { meterLiveAfter s.plan.meters[i] x s.live[i] with fresh := false }
        else meterLiveAfter s.plan.meters[i] x s.live[i]
      else s.live[m] := by
  unfold applyChange occupancyAfterMeter applyMeter
  dsimp only
  split
  · simp only [setLive_live, getElem_set_fin, if_true]
    split <;> rfl
  · simp only [setLive_live, getElem_set_fin]

/-- A waiting slot that the change touches waits for its meters that are not fresh after it (R105). -/
theorem applyChange_meter_occ (i : MeterId) (x : MeterEntry) (s : State) (u : UnitId) :
    (applyChange (.meter i x) s).occ[u] =
      if touchesSlot s.plan.meters[i] x u && s.occ[u].state.waits then
        { s.occ[u] with
          outstanding := staleCount (applyChange (.meter i x) s).plan (applyChange (.meter i x) s).live u }
      else s.occ[u] := by
  unfold applyChange occupancyAfterMeter applyMeter
  dsimp only
  split <;> simp only [getElem_ofFn_fin] <;> rfl

/-- A slot that a meter change does not touch keeps its count. -/
theorem staleCount_applyChange {i : MeterId} {x : MeterEntry} {s : State} {u : UnitId}
    (h : touchesSlot s.plan.meters[i] x u = false) :
    staleCount (applyChange (.meter i x) s).plan (applyChange (.meter i x) s).live u =
      staleCount s.plan s.live u := by
  have bound_set : ∀ m : MeterId, (applyChange (.meter i x) s).plan.bound u m =
      if i = m then x.kind == .unit && x.binding == u else s.plan.bound u m := by
    intro m
    rw [applyChange_meter_plan]
    unfold Plan.bound
    dsimp only
    rw [getElem_set_fin]
    split <;> rfl
  refine staleCount_congr (fun m => ?_) (fun m hm => ?_)
  · rw [bound_set]
    split
    · rename_i him
      subst him
      rcases touchesSlot_false h with ⟨hid, hb⟩ | ⟨hold, hnew⟩
      · unfold Plan.bound
        rw [← sameIdentity_kind hid, ← hb]
      · rw [hnew]
        exact hold.symm
    · rfl
  · rw [applyChange_meter_live]
    split
    · rename_i him
      subst him
      rcases touchesSlot_false h with ⟨hid, hb⟩ | ⟨hold, _⟩
      · have hr : rebound s.plan.meters[i] x = false := by
          unfold rebound
          rw [hb, bne_self_eq_false, Bool.and_false]
        rw [hr, meterLiveAfter_same hid]
        rfl
      · exact absurd (hm.symm.trans hold) (by decide)
    · rfl

theorem applyChange_meter_inv (i : MeterId) (x : MeterEntry) {s : State} (h : OccupancyInv s) :
    OccupancyInv (applyChange (.meter i x) s) := by
  have state_same : ∀ u : UnitId, (applyChange (.meter i x) s).occ[u].state = s.occ[u].state := by
    intro u
    rw [applyChange_meter_occ]
    split <;> rfl
  refine ⟨?_, fun u => ?_, fun u => ?_, fun hm => ?_⟩
  · have hw : s.occ[(0 : UnitId)].state.waits = false := by rw [h.landlord.1]; rfl
    rw [applyChange_meter_occ, hw, Bool.and_false]
    exact h.landlord
  · rw [state_same, applyChange_meter_occ]
    cases hw : s.occ[u].state.waits
    · rw [Bool.and_false, if_neg Bool.false_ne_true, if_neg Bool.false_ne_true]
      exact h.outstanding_idle hw
    · rw [Bool.and_true, if_pos rfl]
      cases ht : touchesSlot s.plan.meters[i] x u
      · rw [if_neg Bool.false_ne_true, staleCount_applyChange ht]
        exact h.outstanding_waiting hw
      · rw [if_pos rfl]
  · rw [applyChange_meter_occ]
    split <;> exact h.deadline u
  · obtain ⟨p, l, oc, r, hf⟩ := applyChange_frame (.meter i x) s
    rw [hf] at hm state_same ⊢
    obtain ⟨hch, hsn, hocc, hrest⟩ := h.loading hm
    exact ⟨hch, hsn, fun u => by rw [state_same]; exact hocc u, hrest⟩

theorem applyChange_occStable (e : PlanEntry) (s : State) : OccStable s (applyChange e s) := by
  have hm : (applyChange e s).status.mode = s.status.mode := by
    obtain ⟨p, l, oc, r, hf⟩ := applyChange_frame e s
    rw [hf]
  cases e
  case meter i x => exact ⟨hm, applyChange_meter_inv i x⟩
  all_goals exact .of_same rfl rfl rfl rfl fun _ => id

theorem handleChange_occStable (s : State) (c : Change) : OccStable s (handleChange s c) := by
  unfold handleChange
  split
  · exact .refl s
  · split
    · exact applyChange_occStable _ s
    · exact .of_same rfl rfl rfl rfl fun _ => id

/-- What every event of a list keeps, the whole list keeps. -/
theorem foldl_occStable {α : Type} {f : State → α → State} (h : ∀ s a, OccStable s (f s a)) (l : List α) :
    ∀ s, OccStable s (l.foldl f s) := by
  induction l with
  | nil => exact OccStable.refl
  | cons a l ih => exact fun s => (h s a).trans (ih _)

theorem handleChanges_occStable (s : State) : OccStable s (handleChanges s) := by
  refine .trans (t := { s with changes := [] }) ?_ (foldl_occStable handleChange_occStable _ _)
  refine .of_same rfl rfl rfl rfl fun _ hL => ?_
  obtain ⟨_, hrest⟩ := hL
  exact ⟨rfl, hrest⟩

/-- An entry applied in LOADING, where no slot waits. -/
theorem applyEntry_occStable {s : State} (hm : s.status.mode = .loading) (e : PlanEntry) :
    OccStable s (applyEntry e s) := by
  obtain ⟨p, l, hf⟩ := applyEntry_frame e s
  rw [hf]
  exact ⟨rfl, fun h => h.tables hm p l⟩

/-! ## The close -/

@[simp] theorem advanceDeadline_state (snap : Occupancy) (r : OccRecord) :
    (advanceDeadline snap r).state = r.state := by
  unfold advanceDeadline
  split <;> rfl

@[simp] theorem advanceDeadline_outstanding (snap : Occupancy) (r : OccRecord) :
    (advanceDeadline snap r).outstanding = r.outstanding := by
  unfold advanceDeadline
  split <;> rfl

/-- The deadline count stays at 8 (R107). -/
theorem advanceDeadline_le (snap : Occupancy) {r : OccRecord} (h : r.deadline ≤ 8) :
    (advanceDeadline snap r).deadline ≤ 8 := by
  unfold advanceDeadline
  split
  · rename_i hr
    obtain ⟨_, _, _, hlt⟩ := hr
    exact hlt
  · exact h

/-- The decision at the boundary: the record stands but for its deadline count, or a waiting slot waits no longer, its
counts returned to 0 (R107 to R109). -/
theorem decideSlot_cases (b : Time) (snap : Occupancy) (held : Bool) (r : OccRecord) :
    decideSlot b snap held r = advanceDeadline snap r ∨
      ((decideSlot b snap held r).state.waits = false ∧ (decideSlot b snap held r).outstanding = 0 ∧
        (decideSlot b snap held r).deadline = 0) := by
  unfold decideSlot
  dsimp only
  split
  · split
    · exact .inr ⟨rfl, rfl, rfl⟩
    · split
      · exact .inr ⟨rfl, rfl, rfl⟩
      · exact .inl rfl
  · split
    · exact .inr ⟨rfl, rfl, rfl⟩
    · exact .inl rfl
  · exact .inl rfl

/-- The decision keeps the count of a slot that still waits. -/
theorem decideSlot_outstanding {b : Time} {snap : Occupancy} {held : Bool} {r : OccRecord} {n : Nat}
    (h : r.outstanding = if r.state.waits then n else 0) :
    (decideSlot b snap held r).outstanding = if (decideSlot b snap held r).state.waits then n else 0 := by
  rcases decideSlot_cases b snap held r with hs | ⟨hw, ho, _⟩
  · rw [hs, advanceDeadline_outstanding, advanceDeadline_state, h]
  · rw [hw, ho]
    rfl

theorem decideSlot_deadline {b : Time} {snap : Occupancy} {held : Bool} {r : OccRecord} (h : r.deadline ≤ 8) :
    (decideSlot b snap held r).deadline ≤ 8 := by
  rcases decideSlot_cases b snap held r with hs | ⟨_, _, hd⟩
  · rw [hs]
    exact advanceDeadline_le snap h
  · rw [hd]
    exact Nat.zero_le 8

theorem decideAll_get (c : Close) (s : State) (u : UnitId) : (decideAll c s)[u] =
    if u = 0 then s.occ[u] else decideSlot c.boundary c.occ[u] s.snapshots[u].isSome s.occ[u] :=
  getElem_ofFn_fin _ u

/-- Slot 0 takes no part in the decisions, and every other slot keeps what the invariant says of it. -/
theorem OccupancyInv.decided {s : State} (h : OccupancyInv s) {c c' : Close} (hc : s.close = some c)
    (sn : Vector (Option Statement) 256) (a : Vector (Both Figures) 256) :
    OccupancyInv { s with occ := decideAll c s, snapshots := sn, accounts := a, close := some c' } where
  landlord := by
    simp only [decideAll_get, if_true]
    exact h.landlord
  outstanding u := by
    simp only [decideAll_get]
    split
    · exact h.outstanding u
    · exact decideSlot_outstanding (h.outstanding u)
  deadline u := by
    simp only [decideAll_get]
    split
    · exact h.deadline u
    · exact decideSlot_deadline (h.deadline u)
  loading hm := absurd (hm.symm.trans (h.running_of_close hc)) (by decide)

/-- During a close the mode is RUNNING, so that whatever leaves slots and meters alone keeps the invariant. -/
theorem OccStable.of_close {s t : State} {c : Close} (hc : s.close = some c)
    (hm : t.status.mode = s.status.mode) (ho : t.occ = s.occ) (hp : t.plan = s.plan) (hl : t.live = s.live) :
    OccStable s t := by
  refine .of_same hm ho (by rw [hp]) hl fun _ hL => ?_
  obtain ⟨_, _, _, _, hclose, _⟩ := hL
  exact absurd (hc.symm.trans hclose) (by simp)

theorem stageOccupancy_occStable {c : Close} {s : State} (hc : s.close = some c) :
    OccStable s (stageOccupancy c s) := by
  unfold stageOccupancy
  dsimp only
  have decided : OccStable s
      (raiseIf ((List.finRange 256).any fun u : UnitId => u != 0 && awaitsFinals c.occ[u] s.occ[u]) .unitAwaiting
        (raiseIf ((List.finRange 256).any fun u => closesNow c s u || opensNow c s u) .unitChanged
          { s with
            occ := decideAll c s
            snapshots := Vector.ofFn fun u : UnitId =>
              if (Vector.ofFn (closesNow c s))[u] then some (statementOf s u c.boundary true false)
              else s.snapshots[u]
            accounts := clearPeriods (fun u => (Vector.ofFn (closesNow c s))[u]) s.accounts
            close := some { c with next := .period, finalTaken := Vector.ofFn (closesNow c s) } })) := by
    refine OccStable.trans ?_ (raiseIf_occStable _ .unitAwaiting _)
    refine OccStable.trans ?_ (raiseIf_occStable _ .unitChanged _)
    exact ⟨rfl, fun h => h.decided hc _ _⟩
  split
  · exact decided.trans (handWork_occStable .p _)
  · exact decided

theorem stagePeriod_occStable {c : Close} {s : State} (hc : s.close = some c) :
    OccStable s (stagePeriod c s) := by
  unfold stagePeriod
  split
  · refine OccStable.trans ?_ (handWork_occStable .p _)
    exact .of_close hc rfl rfl rfl rfl
  · exact .of_close hc rfl rfl rfl rfl

theorem stageSummary_occStable {c : Close} {s : State} (hc : s.close = some c) :
    OccStable s (stageSummary c s) := by
  refine OccStable.trans ?_ (offerSummary_occStable (summaryOf c s) _)
  exact .of_close hc rfl rfl rfl rfl

theorem stageChanges_occStable {c : Close} {s : State} (hc : s.close = some c) :
    OccStable s (stageChanges c s) := by
  refine OccStable.trans ?_ (handleChanges_occStable _)
  exact .of_close hc rfl rfl rfl rfl

theorem stageEffect_occStable (st : Stage) {c : Close} {s : State} (hc : s.close = some c) :
    OccStable s (stageEffect st c s) := by
  cases st with
  | direct => unfold stageEffect stageDirect; exact .of_close hc rfl rfl rfl rfl
  | zones => unfold stageEffect stageZones; exact .of_close hc rfl rfl rfl rfl
  | residual => unfold stageEffect stageResidual; exact .of_close hc rfl rfl rfl rfl
  | price => unfold stageEffect stagePrice; exact .of_close hc rfl rfl rfl rfl
  | occupancy => unfold stageEffect; exact stageOccupancy_occStable hc
  | period => exact stagePeriod_occStable hc
  | summary => exact stageSummary_occStable hc
  | changes => exact stageChanges_occStable hc
  | finish => unfold stageEffect stageFinish; exact .of_close hc rfl rfl rfl rfl

theorem runStage_occStable (st : Stage) (s : State) : OccStable s (runStage st s) := by
  unfold runStage
  split
  · split
    · rename_i hc _
      exact stageEffect_occStable st hc
    · exact .refl s
  · exact .refl s

theorem finishClose_occStable (s : State) : OccStable s (finishClose s) :=
  foldl_occStable (fun t st => runStage_occStable st t) stageOrder s

/-- An estimate moves no fresh flag. -/
@[simp] theorem estimateMeter_fresh (l : MeterLive) : (estimateMeter l).fresh = l.fresh := by
  unfold estimateMeter
  split
  · rfl
  · split <;> rfl

/-- Stage 1 clears the command-since-boundary flags, which the invariant does not read. -/
theorem beginClose_occStable {s : State} (hm : s.status.mode = .running) (b : Time) :
    OccStable s (beginClose b s) := by
  refine OccStable.trans ?_ (raiseIf_occStable _ .meterStale _)
  refine ⟨rfl, fun h => ?_⟩
  have hlive := h.live (l := (s.live.map estimateMeter).map (·.clearOpen)) fun m => by
    rw [getElem_map_fin, getElem_map_fin]
    exact estimateMeter_fresh _
  refine ⟨?_, fun u => ?_, fun u => ?_, fun hload => absurd (hload.symm.trans hm) (by decide)⟩
  · simp only [getElem_map_fin]
    exact h.landlord
  · simp only [getElem_map_fin]
    exact hlive.outstanding u
  · simp only [getElem_map_fin]
    exact h.deadline u

/-! ## The billing clock -/

/-- An event of the clock that keeps the interval sequence number. -/
theorem OccStable.clock_seq {s : State} {k : Clock} (h : k.seq = s.clock.seq) :
    OccStable s { s with clock := k } := .clock fun _ => h

@[simp] theorem Clock.setQuiet_seq (src : Source) (n : Nat) (k : Clock) : (k.setQuiet src n).seq = k.seq := by
  cases src <;> rfl

@[simp] theorem Clock.restart_seq (src : Source) (k : Clock) : (k.restart src).seq = k.seq := k.setQuiet_seq src 0

@[simp] theorem Clock.restartTref_seq (k : Clock) : k.restartTref.seq = k.seq := by
  unfold Clock.restartTref
  split
  · exact k.restart_seq .tref
  · rfl

@[simp] theorem Clock.pass_seq (dt : Nat) (k : Clock) : (k.pass dt).seq = k.seq := by
  unfold Clock.pass
  split <;> rfl

@[simp] theorem Clock.atEdge_seq (k : Clock) : k.atEdge.seq = k.seq := by
  unfold Clock.atEdge
  split
  · rfl
  · rw [Clock.restart_seq, Clock.pass_seq]

theorem setQuality_occStable (q : Quality) (s : State) : OccStable s (setQuality q s) := .clock_seq rfl

theorem endSwitched_occStable (src : Source) (s : State) : OccStable s (endSwitched src s) := by
  unfold endSwitched
  refine OccStable.trans ?_ (setQuality_occStable _ _)
  refine OccStable.trans ?_ (raise_occStable .clockEvent _)
  exact .clock_seq rfl

theorem completeSwitch_occStable (s : State) : OccStable s (completeSwitch s) := by
  unfold completeSwitch
  split
  · exact .refl s
  · refine OccStable.trans ?_ (endSwitched_occStable _ _)
    exact .clock_seq rfl

theorem abandonSwitch_occStable (s : State) : OccStable s (abandonSwitch s) := by
  unfold abandonSwitch
  refine OccStable.trans ?_ (raise_occStable .clockEvent _)
  exact .clock_seq rfl

theorem settleCrystal_occStable (s : State) : OccStable s (settleCrystal s) := by
  unfold settleCrystal
  split
  · exact .clock_seq rfl
  · exact .refl s

theorem timeoutSwitch_occStable (s : State) : OccStable s (timeoutSwitch s) := by
  unfold timeoutSwitch
  split
  · exact abandonSwitch_occStable s
  · exact .refl s

theorem failOver_occStable (src : Source) (s : State) : OccStable s (failOver src s) := by
  unfold failOver
  refine OccStable.trans ?_ (setQuality_occStable _ _)
  exact .clock_seq rfl

theorem failSource_occStable (src : Source) (s : State) : OccStable s (failSource src s) := by
  unfold failSource
  split
  · refine OccStable.trans ?_ (raise_occStable .clockFail _)
    split
    · exact failOver_occStable src s
    · exact abandonSwitch_occStable s
  · exact .refl s

theorem recomputeBoundary_occStable (s : State) : OccStable s (recomputeBoundary s) := .clock_seq rfl

/-- The boundary event: the close still in progress ends, and stage 1 of the new one begins (R88). -/
theorem boundaryEvent_occStable {s : State} (hm : s.status.mode = .running) : OccStable s (boundaryEvent s) := by
  have hf := finishClose_occStable s
  have hrun : (finishClose s).status.mode = .running := hf.mode.trans hm
  have hb := beginClose_occStable hrun s.clock.time
  unfold boundaryEvent
  refine (hf.trans hb).trans (.clock fun hload => ?_)
  exact absurd ((hb.mode.trans hrun).symm.trans hload) (by decide)

theorem tickSecond_occStable (s : State) : OccStable s (tickSecond s) := by
  unfold tickSecond
  extract_lets _ ticked reached
  have htick : OccStable s ticked := .clock_seq rfl
  have hreach : OccStable ticked reached := by
    unfold reached
    split
    · rename_i hrun
      split
      · exact boundaryEvent_occStable (ticked.running_iff.mp hrun)
      · exact .refl ticked
    · exact recomputeBoundary_occStable ticked
  split
  · exact (htick.trans hreach).trans (completeSwitch_occStable reached)
  · exact htick.trans hreach

theorem secondEdge_occStable (s : State) : OccStable s (secondEdge s) :=
  (OccStable.clock_seq (Clock.atEdge_seq _)).trans (tickSecond_occStable _)

/-- A TREF pulse restarts the measure, advances a settling run, and may be a second edge (R78, R79, R82). -/
theorem pulse_occStable (s : State) : OccStable s (pulse s) := by
  unfold pulse
  extract_lets restarted advanced
  have hrestart : OccStable s restarted := .clock_seq (Clock.restartTref_seq _)
  have hadvance : OccStable restarted advanced := by
    unfold advanced
    split
    · exact .clock_seq rfl
    · exact .refl restarted
  split
  · refine (hrestart.trans hadvance).trans (OccStable.trans ?_ (tickSecond_occStable _))
    exact .clock_seq rfl
  · exact hrestart.trans hadvance

theorem sourcePeriod_occStable (s : State) : OccStable s (sourcePeriod s) := by
  unfold sourcePeriod
  split
  · exact .clock_seq (Clock.pass_seq 1 _)
  · exact secondEdge_occStable s

theorem limitPeriod_occStable (s : State) : OccStable s (limitPeriod s) := by
  unfold limitPeriod
  dsimp only
  have counted : OccStable s { s with clock := { s.clock with limit := s.clock.limit + 1 } } := .clock_seq rfl
  split
  · split
    · exact counted.trans (timeoutSwitch_occStable _)
    · exact counted
  · exact .refl s

theorem monitorPeriod_occStable (src : Source) (limit : Nat) (s : State) :
    OccStable s (monitorPeriod src limit s) := by
  unfold monitorPeriod
  split
  · exact .refl s
  · split
    · split
      · exact failSource_occStable src s
      · exact .clock_seq (Clock.setQuiet_seq _ _ _)
    · exact .refl s

theorem ircPeriod_occStable (s : State) : OccStable s (ircPeriod s) := by
  unfold ircPeriod
  refine OccStable.trans ?_ (monitorPeriod_occStable .xtal Config.xtalLimit _)
  refine OccStable.trans ?_ (monitorPeriod_occStable .tref Config.trefLimit _)
  refine OccStable.trans ?_ (limitPeriod_occStable _)
  split
  · exact sourcePeriod_occStable s
  · exact .clock_seq (Clock.pass_seq 1 _)
  · exact .refl s

theorem crystalPeriod_occStable (s : State) : OccStable s (crystalPeriod s) := by
  unfold crystalPeriod
  split
  · exact sourcePeriod_occStable s
  · split
    · extract_lets restarted
      have hrestart : OccStable s restarted := .clock_seq (Clock.restart_seq .xtal s.clock)
      split
      · split
        · exact hrestart.trans (.clock_seq rfl)
        · exact hrestart.trans (settleCrystal_occStable restarted)
      · exact hrestart
    · exact .refl s

theorem requestSource_occStable (src : Source) (s : State) : OccStable s (requestSource src s) := .clock_seq rfl

theorem switchEffect_occStable (a : BitVec 8) (s : State) : OccStable s (switchEffect a s) := by
  unfold switchEffect
  split
  · exact .refl s
  · split
    · exact endSwitched_occStable _ s
    · exact requestSource_occStable _ s

theorem setTime_occStable (t : Time) (s : State) : OccStable s (setTime t s) := by
  unfold setTime
  refine OccStable.trans ?_ (recomputeBoundary_occStable _)
  refine OccStable.trans ?_ (setQuality_occStable _ _)
  exact .clock_seq rfl

theorem intervalLengthChanged_occStable (s : State) : OccStable s (intervalLengthChanged s) := by
  unfold intervalLengthChanged
  refine OccStable.trans ?_ (recomputeBoundary_occStable _)
  exact .clock_seq rfl

/-! ## The commands of the COMMAND word -/

/-- The invariant holds of the initial tables and records. -/
theorem OccupancyInv.of_initial {t : State} (hocc : t.occ = occInitial) (hplan : t.plan = Plan.initial)
    (hload : t.changes = [] ∧ (∀ u : UnitId, t.snapshots[u] = none) ∧ t.clock.seq = 0 ∧ t.close = none ∧
      t.period.pending = false ∧ t.period.trailer = none) : OccupancyInv t where
  landlord := by
    rw [hocc, occInitial_get]
    exact ⟨rfl, rfl, rfl, rfl⟩
  outstanding u := by
    rw [hocc, hplan, staleCount_initial, ite_self, occInitial_get]
    rfl
  deadline u := by
    rw [hocc, occInitial_get]
    exact Nat.zero_le 8
  loading _ := by
    obtain ⟨hch, hsn, hrest⟩ := hload
    refine ⟨hch, hsn, fun u => ?_, hrest⟩
    rw [hocc, occInitial_get]
    by_cases hu : u = 0
    · rw [if_pos hu]
      exact .inr rfl
    · rw [if_neg hu]
      exact .inl rfl

theorem finishCommand_occStable (code : BitVec 8) (o : CmdOutcome) (d : Nat) (s : State) :
    OccStable s (finishCommand code o d s) := .of_same rfl rfl rfl rfl fun _ => id

/-- START leaves the records as they are, and RUNNING takes nothing for granted. -/
theorem startEffect_inv {s : State} (h : OccupancyInv s) : OccupancyInv (startEffect s) where
  landlord := h.landlord
  outstanding := h.outstanding
  deadline := h.deadline
  loading hm := absurd hm (by simp [startEffect, fixFirstInterval])

theorem commandStart_inv {s : State} (h : OccupancyInv s) : OccupancyInv (commandStart s) := by
  refine (finishCommand_occStable _ _ _ _).inv ?_
  split
  · exact startEffect_inv h
  · exact h

/-- CLEAR finds no close in progress (R173) and returns tables and records to their initial values (R174). -/
theorem clearEffect_inv {s : State} (hc : s.close = none) : OccupancyInv (clearEffect s) := by
  have hclose : (cancelActive s).close = none := by
    obtain ⟨l, o, sn, hf⟩ := cancelActive_frame s
    rw [hf]
    exact hc
  exact .of_initial rfl rfl ⟨rfl, getElem_replicate_fin none, rfl, hclose, rfl, rfl⟩

theorem clearOutcome_done {armed : Bool} {s : State} (h : clearOutcome armed s = .done) : s.close = none := by
  unfold clearOutcome at h
  cases hc : s.close
  · rfl
  · have hclosing : s.closing = true := by rw [State.closing, hc]; rfl
    cases armed <;> simp [hclosing] at h

theorem commandClear_inv (armed : Bool) {s : State} (h : OccupancyInv s) : OccupancyInv (commandClear armed s) := by
  refine (finishCommand_occStable _ _ _ _).inv ?_
  split
  · rename_i hdone
    exact clearEffect_inv (clearOutcome_done hdone)
  · exact h

/-- PERIOD_CLOSE is answered DONE in RUNNING alone (R145). -/
theorem periodCloseOutcome_done {s : State} (h : periodCloseOutcome s = .done) : s.status.mode = .running := by
  unfold periodCloseOutcome at h
  split at h
  · exact absurd h (by decide)
  · rename_i hrun
    rwa [Bool.not_eq_false, State.running_iff] at hrun

theorem commandPeriodClose_occStable (s : State) : OccStable s (commandPeriodClose s) := by
  unfold commandPeriodClose
  refine OccStable.trans ?_ (finishCommand_occStable _ _ _ _)
  split
  · rename_i hdone
    refine .of_same rfl rfl rfl rfl fun hload => ?_
    exact absurd (hload.symm.trans (periodCloseOutcome_done hdone)) (by decide)
  · exact .refl s

theorem commandClearArm_occStable (s : State) : OccStable s (commandClearArm s) :=
  .of_same rfl rfl rfl rfl fun _ => id

theorem commandPeriodResend_occStable (s : State) : OccStable s (commandPeriodResend s) := by
  unfold commandPeriodResend
  split
  · exact (handWork_occStable .p s).trans (finishCommand_occStable _ _ _ _)
  · exact finishCommand_occStable _ _ _ s

theorem commandClockSwitch_occStable (a : BitVec 8) (s : State) : OccStable s (commandClockSwitch a s) := by
  unfold commandClockSwitch
  refine OccStable.trans ?_ (finishCommand_occStable _ _ _ _)
  split
  · exact switchEffect_occStable a s
  · exact .refl s

theorem commandWrite_inv (code argument : BitVec 8) (armed : Bool) {s : State} (h : OccupancyInv s) :
    OccupancyInv (commandWrite code argument armed s) := by
  unfold commandWrite
  split
  · exact commandStart_inv h
  · exact (commandClearArm_occStable s).inv h
  · exact commandClear_inv armed h
  · exact (commandPeriodClose_occStable s).inv h
  · exact (commandPeriodResend_occStable s).inv h
  · exact (commandClockSwitch_occStable argument s).inv h
  · exact (finishCommand_occStable _ _ _ s).inv h

/-! ## The status block -/

theorem writeCause_occStable (v : Word) (s : State) : OccStable s (writeCause v s) :=
  .of_same rfl rfl rfl rfl fun _ => id

theorem writeMask_occStable (v : Word) (s : State) : OccStable s (writeMask v s) :=
  .of_same rfl rfl rfl rfl fun _ => id

theorem writeTime_occStable (v : Word) (s : State) : OccStable s (writeTime v s) := by
  unfold writeTime
  split
  · exact respond_occStable .refuse s
  · exact (setTime_occStable v s).trans (acceptWrite_occStable _)

theorem writeTimeAdjust_occStable (v : Word) (s : State) : OccStable s (writeTimeAdjust v s) := by
  unfold writeTimeAdjust
  split
  · exact respond_occStable .refuse s
  · refine OccStable.trans ?_ (acceptWrite_occStable _)
    exact .clock_seq rfl

theorem writeExport_occStable (v : Word) (s : State) : OccStable s (writeExport v s) := by
  unfold writeExport
  split
  · exact (exportRecords_occStable _ s).trans (acceptWrite_occStable _)
  · exact respond_occStable .refuse s

theorem statusWrite_inv (i : Nat) (v : Word) {s : State} (h : OccupancyInv s) :
    OccupancyInv (statusWrite i v s) := by
  have hd := (disarm_occStable s).inv h
  unfold statusWrite
  dsimp only
  split
  · exact (writeCause_occStable v _).inv hd
  · exact (writeMask_occStable v _).inv hd
  · exact commandWrite_inv _ _ _ hd
  · exact (unitCmdWrite_occStable _ _ _).inv hd
  · exact (writeTime_occStable v _).inv hd
  · exact (writeTimeAdjust_occStable v _).inv hd
  · exact (writeExport_occStable v _).inv hd
  · exact (respond_occStable .refuse _).inv hd

/-- An upstream transaction that is taken, or has no effect. -/
theorem takeUpstream_inv {f : State → State} {s : State} (h : OccupancyInv s)
    (hf : OccupancyInv s → OccupancyInv (f s)) : OccupancyInv (takeUpstream f s) := by
  unfold takeUpstream
  split
  · exact hf h
  · exact h

theorem giveCommand_inv (code argument : BitVec 8) {s : State} (h : OccupancyInv s) :
    OccupancyInv (giveCommand code argument s) :=
  takeUpstream_inv h fun h => commandWrite_inv _ _ _ ((disarm_occStable s).inv h)

/-- A UNIT_CMD write as its command gives it. -/
theorem takeUnitCommand_inv (code : BitVec 8) (u : UnitId) {s : State} (h : OccupancyInv s) :
    OccupancyInv (takeUpstream (fun s => unitCmdWrite code u (disarm s)) s) :=
  takeUpstream_inv h fun h => (unitCmdWrite_occStable _ _ _).inv ((disarm_occStable s).inv h)

/-! ## The reading processor -/

/-- What a record does to the fresh flag of its meter (R40). -/
theorem liveAfter_fresh (o : ReadingOutcome) (e : MeterEntry) (len : Nat) (fresh : Bool) (r : QueuedReading)
    (l : MeterLive) : (liveAfter o e len fresh r l).fresh = (l.fresh || (o.applies && fresh)) := by
  unfold liveAfter
  cases o <;> simp [ReadingOutcome.applies, applyBaseline, applyTaken]

theorem tally_occStable (o : ReadingOutcome) (r : QueuedReading) (s : State) : OccStable s (tally o r s) := by
  unfold tally
  refine OccStable.trans ?_ (raiseIf_occStable _ .readingRejected _)
  exact .of_same rfl rfl rfl rfl fun _ => id

/-- An applying record of a waiting slot's meter: one meter more is fresh, and one reading less is outstanding. -/
theorem OccupancyInv.countFresh {s : State} (h : OccupancyInv s) {m : MeterId} {l : MeterLive}
    (hk : s.plan.meters[m].kind = .unit) (hw : s.occ[s.plan.meters[m].binding].state.waits = true)
    (hs : s.live[m].fresh = false) (hl : l.fresh = true) :
    OccupancyInv (setLive m l (countFresh s.plan.meters[m] s)) := by
  have hb : s.plan.bound s.plan.meters[m].binding m = true := by
    unfold Plan.bound
    rw [hk, beq_self_eq_true, beq_self_eq_true]
    rfl
  refine h.setSlot (l := s.live.set m l) (h.ne_zero_of_waits hw) (h.deadline _) ?_ (fun v hv j hj => ?_) fun hm => ?_
  · dsimp only
    rw [if_pos hw, staleCount_setFresh hb hs hl, h.outstanding_waiting hw]
  · rw [getElem_set_fin]
    split
    · rename_i hmj
      exact absurd (Plan.bound_unique hj (hmj ▸ hb)) hv
    · rfl
  · exact absurd (hw.symm.trans ((h.loading hm).waits _)) (by decide)

theorem takeRecord_inv (r : QueuedReading) {s : State} (h : OccupancyInv s) : OccupancyInv (takeRecord r s) := by
  unfold takeRecord
  split
  · exact (tally_occStable _ _ s).inv h
  · rename_i m _
    dsimp only
    refine (tally_occStable _ _ _).inv ?_
    generalize judgeMeter s.status.mode s.plan.meters[m] s.live[m] r = o
    cases hfresh : freshTest o s.plan.meters[m] s with
    | false =>
      rw [Bool.false_and, if_neg Bool.false_ne_true]
      refine h.live (l := s.live.set m _) fun j => ?_
      rw [getElem_set_fin]
      split
      · rename_i hmj
        subst hmj
        rw [liveAfter_fresh, Bool.and_false, Bool.or_false]
      · rfl
    | true =>
      have htest := hfresh
      simp only [freshTest, Bool.and_eq_true, beq_iff_eq] at htest
      obtain ⟨⟨happ, hk⟩, hw⟩ := htest
      cases hl : s.live[m].fresh with
      | true =>
        rw [Bool.not_true, Bool.and_false, if_neg Bool.false_ne_true]
        refine h.live (l := s.live.set m _) fun j => ?_
        rw [getElem_set_fin]
        split
        · rename_i hmj
          subst hmj
          rw [liveAfter_fresh, hl, Bool.true_or]
        · rfl
      | false =>
        rw [Bool.not_false, Bool.and_true, if_pos rfl]
        refine h.countFresh hk hw hl ?_
        rw [liveAfter_fresh, happ]
        exact Bool.or_true _

/-! ## The memory link -/

theorem captureWrite_occStable (t : WriteTxn) (off : Nat) (s : State) : OccStable s (captureWrite t off s) := by
  unfold captureWrite
  split
  · exact (raise_occStable .queueFull s).trans (respond_occStable .retry _)
  · split
    · exact respond_occStable .retry s
    · refine OccStable.trans ?_ (raiseIf_occStable _ .queueHalf _)
      refine OccStable.trans ?_ (postWrite_occStable t _)
      exact .of_same rfl rfl rfl rfl fun _ => id

theorem dropRingWrite_occStable (t : WriteTxn) (off : Nat) (s : State) : OccStable s (dropRingWrite t off s) := by
  unfold dropRingWrite
  split
  · exact captureWrite_occStable t off s
  · exact respond_occStable .refuse s

theorem applyInLoading_occStable {s : State} (hm : s.status.mode = .loading) (e : PlanEntry) :
    OccStable s (applyInLoading e s) := by
  have applied := applyEntry_occStable hm e
  unfold applyInLoading
  dsimp only
  split
  · exact applied
  · exact applied.trans (intervalLengthChanged_occStable _)

/-- A plan write is queued in RUNNING and takes effect in LOADING (R115, R117). -/
theorem planAreaWrite_occStable (t : WriteTxn) (off : Nat) (s : State) : OccStable s (planAreaWrite t off s) := by
  unfold planAreaWrite
  split
  · split
    · exact respond_occStable .refuse s
    · split
      · exact respond_occStable .refuse s
      · split
        · exact respond_occStable .refuse s
        · split
          · exact respond_occStable .retry s
          · split
            · rename_i hrun
              split
              · exact respond_occStable .retry s
              · refine OccStable.trans ?_ (postWrite_occStable t _)
                refine .of_same rfl rfl rfl rfl fun hload => ?_
                exact absurd (hload.symm.trans (s.running_iff.mp hrun)) (by decide)
            · rename_i hrun
              have hload : s.status.mode = .loading := by
                cases hm : s.status.mode
                · rfl
                · exact absurd (s.running_iff.mpr hm) hrun
              exact (applyInLoading_occStable hload _).trans (postWrite_occStable t _)
  · exact respond_occStable .refuse s

theorem statusBlockWrite_inv (t : WriteTxn) (off : Nat) {s : State} (h : OccupancyInv s) :
    OccupancyInv (statusBlockWrite t off s) := by
  unfold statusBlockWrite
  split
  · exact statusWrite_inv _ _ h
  · exact ((disarm_occStable s).trans (respond_occStable .refuse _)).inv h

theorem ringWrite_occStable (t : WriteTxn) (off : Nat) (s : State) : OccStable s (ringWrite t off s) := by
  unfold ringWrite
  split
  · exact respond_occStable .refuse s
  · split
    · exact respond_occStable .retry s
    · exact postWrite_occStable t s

theorem decideWrite_inv (t : WriteTxn) {s : State} (h : OccupancyInv s) : OccupancyInv (decideWrite t s) := by
  unfold decideWrite
  split
  · split
    · exact (postWrite_occStable t s).inv h
    · exact (planAreaWrite_occStable t _ s).inv h
    · exact (dropRingWrite_occStable t _ s).inv h
    · exact statusBlockWrite_inv t _ h
    · exact (respond_occStable .refuse s).inv h
    · exact (ringWrite_occStable t _ s).inv h
  · split
    · exact ((disarm_occStable s).trans (respond_occStable .refuse _)).inv h
    · exact (respond_occStable .refuse s).inv h

theorem forwardRead_occStable (t : ReadTxn) (s : State) : OccStable s (forwardRead t s) := by
  unfold forwardRead
  split
  · exact respond_occStable .retry s
  · refine OccStable.trans ?_ (grant_occStable _)
    exact .of_same rfl rfl rfl rfl fun _ => id

theorem ringRead_occStable (t : ReadTxn) (off : Nat) (s : State) : OccStable s (ringRead t off s) := by
  unfold ringRead
  split
  · exact respond_occStable .retry s
  · exact forwardRead_occStable t s

theorem decideRead_occStable (t : ReadTxn) (s : State) : OccStable s (decideRead t s) := by
  unfold decideRead
  split
  · split
    · exact respond_occStable _ s
    · exact respond_occStable _ s
    · exact ringRead_occStable t _ s
    · exact forwardRead_occStable t s
    · exact forwardRead_occStable t s
    · exact forwardRead_occStable t s
  · exact respond_occStable .refuse s

theorem takeWrite_inv (t : WriteTxn) {s : State} (h : OccupancyInv s) :
    OccupancyInv (takeUpstream (decideWrite t) s) := takeUpstream_inv h (decideWrite_inv t)

theorem takeRead_inv (t : ReadTxn) {s : State} (h : OccupancyInv s) :
    OccupancyInv (takeUpstream (decideRead t) s) := takeUpstream_inv h (decideRead_occStable t s).inv

theorem takeTxn_inv (t : Txn) {s : State} (h : OccupancyInv s) :
    OccupancyInv (takeUpstream (decideTxn t) s) := by
  cases t with
  | write w => exact takeWrite_inv w h
  | read r => exact takeRead_inv r h

theorem timeoutAccess_occStable (s : State) : OccStable s (timeoutAccess s) := by
  unfold timeoutAccess
  split
  · exact discardDrain_occStable s
  · exact endRead_occStable .refuse s
  · exact (failRecord_occStable s).grant_freePort
  · exact (failRecord_occStable s).grant_freePort
  · exact (OccStable.refl s).grant_freePort
  · exact .refl s

theorem linkPeriod_occStable (s : State) : OccStable s (linkPeriod s) := by
  unfold linkPeriod
  split
  · exact .refl s
  · split
    · exact .link s _
    · exact timeoutAccess_occStable s

/-! ## Resets and the idle step -/

theorem dropRead_occStable (s : State) : OccStable s (dropRead s) := by
  unfold dropRead
  split
  · exact .refl s
  · exact .of_same rfl rfl rfl rfl fun _ => id

theorem cancelAndChoose_occStable (s : State) : OccStable s (cancelAndChoose s) := by
  unfold cancelAndChoose
  split
  · exact (cancelActive_occStable s).trans (choose_occStable _)
  · exact .refl s

theorem resetBus_occStable (s : State) : OccStable s (resetBus s) := by
  refine ((dropRead_occStable s).trans (cancelAndChoose_occStable _)).trans ?_
  exact .of_same rfl rfl rfl rfl fun _ => id

theorem setBrst_occStable (level : Bool) (s : State) : OccStable s (setBrst level s) :=
  .of_same rfl rfl rfl rfl fun _ => id

theorem powerOn_inv (pins : Pins) (idle : Nat) (pending : List Instr) :
    OccupancyInv { State.powerOn pins with idle := idle, pending := pending } := by
  exact .of_initial rfl rfl ⟨rfl, getElem_replicate_fin none, rfl, rfl, rfl, rfl⟩

theorem oscillatorPeriod_occStable (o : Oscillator) (s : State) : OccStable s (oscillatorPeriod o s) := by
  cases o with
  | irc => exact ircPeriod_occStable s
  | xtal => exact crystalPeriod_occStable s
  | link => exact linkPeriod_occStable s

theorem idleStep_occStable (s : State) : OccStable s (idleStep s) := by
  refine OccStable.trans ?_ (oscillatorPeriod_occStable (Config.period s.idle) _)
  exact .of_same rfl rfl rfl rfl fun _ => id

/-! ## Every command -/

/-- The command is answered, and the state it leaves keeps the occupancy invariant. -/
def KeepsOccupancy (r : Host.Outcome State Fault Refusal) : Prop := ∃ t, r = .next t ∧ OccupancyInv t

theorem KeepsOccupancy.next {t : State} (h : OccupancyInv t) : KeepsOccupancy (.next t) := ⟨t, rfl, h⟩

theorem execTrefPulse_keepsOccupancy (dt : Nat) {s : State} (h : OccupancyInv s) :
    KeepsOccupancy (execTrefPulse dt s) := by
  refine .next (OccStable.inv (.trans ?_ (pulse_occStable _)) h)
  exact .clock_seq (Clock.pass_seq dt _)

theorem execXtalSettled_keepsOccupancy {s : State} (h : OccupancyInv s) : KeepsOccupancy (execXtalSettled s) := by
  refine .next (OccStable.inv (.trans ?_ (settleCrystal_occStable _)) h)
  split
  · exact .clock_seq (Clock.restart_seq .xtal _)
  · exact .refl s

theorem execReadingTake_keepsOccupancy {s : State} (h : OccupancyInv s) : KeepsOccupancy (execReadingTake s) := by
  unfold execReadingTake
  split
  · exact .next h
  · refine .next ?_
    split
    · exact h
    · refine takeRecord_inv _ (OccStable.inv ?_ h)
      exact .of_same rfl rfl rfl rfl fun _ => id

theorem execBrst_keepsOccupancy (level : Bool) {s : State} (h : OccupancyInv s) :
    KeepsOccupancy (execBrst s level) := by
  have hpin := setBrst_occStable level s
  refine .next ?_
  split
  · exact (hpin.trans (resetBus_occStable _)).inv h
  · exact hpin.inv h

theorem execRecordStart_keepsOccupancy {s : State} (h : OccupancyInv s) : KeepsOccupancy (execRecordStart s) := by
  refine .next ?_
  split
  · refine OccStable.inv (.trans ?_ (grant_occStable _)) h
    exact .of_same rfl rfl rfl rfl fun _ => id
  · exact h

theorem execFirstBurstAccepted_keepsOccupancy {s : State} (h : OccupancyInv s) :
    KeepsOccupancy (execFirstBurstAccepted s) := by
  unfold execFirstBurstAccepted
  split
  · refine .next (OccStable.inv (OccStable.grant_freePort ?_) h)
    exact .of_same rfl rfl rfl rfl fun _ => id
  · exact .next h

theorem execRecordComplete_keepsOccupancy {s : State} (h : OccupancyInv s) :
    KeepsOccupancy (execRecordComplete s) := by
  unfold execRecordComplete
  split
  · exact .next ((completeRecord_occStable _ s).grant_freePort.inv h)
  · exact .next h

theorem execRecordAbandoned_keepsOccupancy {s : State} (h : OccupancyInv s) :
    KeepsOccupancy (execRecordAbandoned s) := by
  unfold execRecordAbandoned
  split
  · exact .next ((failRecord_occStable s).grant_freePort.inv h)
  · exact .next ((failRecord_occStable s).grant_freePort.inv h)
  · exact .next h

theorem execDrainWriteAccepted_keepsOccupancy {s : State} (h : OccupancyInv s) :
    KeepsOccupancy (execDrainWriteAccepted s) := by
  unfold execDrainWriteAccepted
  split
  · exact .next ((endDrain_occStable s).inv h)
  · exact .next h

theorem execDrainWriteDiscarded_keepsOccupancy {s : State} (h : OccupancyInv s) :
    KeepsOccupancy (execDrainWriteDiscarded s) := by
  unfold execDrainWriteDiscarded
  split
  · exact .next ((discardDrain_occStable s).inv h)
  · exact .next h

theorem execReadAnswer_keepsOccupancy (a : MemAnswer) {s : State} (h : OccupancyInv s) :
    KeepsOccupancy (execReadAnswer a s) := by
  unfold execReadAnswer
  split
  · exact .next ((endRead_occStable _ s).inv h)
  · exact .next h

theorem execDisregardedMemoryAnswer_keepsOccupancy {s : State} (h : OccupancyInv s) :
    KeepsOccupancy (execDisregardedMemoryAnswer s) := by
  unfold execDisregardedMemoryAnswer
  split
  · exact .next ((OccStable.refl s).grant_freePort.inv h)
  · exact .next h

theorem exec_keepsOccupancy (i : Instr) {s : State} (h : OccupancyInv s) : KeepsOccupancy (exec i s) := by
  cases i with
  | powerOnReset => exact .next (powerOn_inv _ _ _)
  | brst level => exact execBrst_keepsOccupancy level h
  | planLockChange level =>
    refine .next (OccStable.inv ?_ h)
    exact .of_same rfl rfl rfl rfl fun _ => id
  | trefPulse dt => exact execTrefPulse_keepsOccupancy dt h
  | secondEdge => exact .next ((secondEdge_occStable s).inv h)
  | xtalSettled => exact execXtalSettled_keepsOccupancy h
  | switchTimeout => exact .next ((timeoutSwitch_occStable s).inv h)
  | clockMonitorFail source => exact .next ((failSource_occStable source s).inv h)
  | stageDirect => exact .next ((runStage_occStable .direct s).inv h)
  | stageZones => exact .next ((runStage_occStable .zones s).inv h)
  | stageResidual => exact .next ((runStage_occStable .residual s).inv h)
  | stagePrice => exact .next ((runStage_occStable .price s).inv h)
  | stageOccupancy => exact .next ((runStage_occStable .occupancy s).inv h)
  | stagePeriod => exact .next ((runStage_occStable .period s).inv h)
  | stageSummary => exact .next ((runStage_occStable .summary s).inv h)
  | stageChanges => exact .next ((runStage_occStable .changes s).inv h)
  | stageEnd => exact .next ((runStage_occStable .finish s).inv h)
  | dropWrite t => exact .next (takeWrite_inv t h)
  | planWrite t => exact .next (takeWrite_inv t h)
  | postedWrite t => exact .next (takeWrite_inv t h)
  | forwardedRead t => exact .next (takeRead_inv t h)
  | statementRingAccess t => exact .next (takeTxn_inv t h)
  | misalignedTransaction t => exact .next (takeTxn_inv t h)
  | accountWindowWrite t => exact .next (takeWrite_inv t h)
  | statusWriteRefused t => exact .next (takeWrite_inv t h)
  | causeWrite value => exact .next (takeUpstream_inv h (statusWrite_inv 2 value))
  | maskWrite value => exact .next (takeUpstream_inv h (statusWrite_inv 3 value))
  | timeWrite value => exact .next (takeUpstream_inv h (statusWrite_inv 6 value))
  | timeAdjustWrite value => exact .next (takeUpstream_inv h (statusWrite_inv 7 value))
  | exportWrite count => exact .next (takeUpstream_inv h (statusWrite_inv 11 count))
  | start => exact .next (giveCommand_inv 1 0 h)
  | clearArm => exact .next (giveCommand_inv 2 0 h)
  | clear => exact .next (giveCommand_inv 3 0 h)
  | periodClose => exact .next (giveCommand_inv 4 0 h)
  | periodResend => exact .next (giveCommand_inv 5 0 h)
  | clockSwitch argument => exact .next (giveCommand_inv 6 argument h)
  | commandBadCode code argument => exact .next (giveCommand_inv code argument h)
  | openUnit slot => exact .next (takeUnitCommand_inv 1 slot h)
  | closeUnit slot => exact .next (takeUnitCommand_inv 2 slot h)
  | forceUnit slot => exact .next (takeUnitCommand_inv 3 slot h)
  | cancelUnit slot => exact .next (takeUnitCommand_inv 4 slot h)
  | unitCmdBadCode code slot => exact .next (takeUnitCommand_inv code slot h)
  | readingTake => exact execReadingTake_keepsOccupancy h
  | drainWriteAccepted => exact execDrainWriteAccepted_keepsOccupancy h
  | drainWriteDiscarded => exact execDrainWriteDiscarded_keepsOccupancy h
  | readAnswer answer => exact execReadAnswer_keepsOccupancy answer h
  | memoryTimeout => exact .next ((timeoutAccess_occStable s).inv h)
  | recordStart => exact execRecordStart_keepsOccupancy h
  | firstBurstAccepted => exact execFirstBurstAccepted_keepsOccupancy h
  | recordComplete => exact execRecordComplete_keepsOccupancy h
  | recordAbandoned => exact execRecordAbandoned_keepsOccupancy h
  | disregardedMemoryAnswer => exact execDisregardedMemoryAnswer_keepsOccupancy h

theorem step_keepsOccupancy {s : State} (h : OccupancyInv s) : KeepsOccupancy (step s) := by
  unfold step
  split
  · exact .next ((idleStep_occStable s).inv h)
  · refine exec_keepsOccupancy _ (OccStable.inv ?_ h)
    exact .of_same rfl rfl rfl rfl fun _ => id

/-- Settles O7: one lemma for each operation of the device (`_occStable` where it keeps the mode, `_inv` elsewhere),
put together along the commands. -/
theorem stepKeepsOccupancy : Obligations.StepKeepsOccupancy := by
  intro s t h hstep
  obtain ⟨t', ht', hinv⟩ := step_keepsOccupancy h
  cases ht'.symm.trans hstep
  exact hinv

end Sys2Proof.Machine
end

section
/-! SUPPORT. The band of an interval by the tariff calendar (R92, R93). -/

namespace Sys2Proof.Machine

/-- The lowest index that passes a test is the one found. -/
theorem find?_finRange_eq_some {n : Nat} {p : Fin n → Bool} {i : Fin n} (hi : p i = true)
    (hlow : ∀ j, j < i → p j = false) : (List.finRange n).find? p = some i := by
  rw [List.find?_eq_some_iff_getElem]
  refine ⟨hi, i.val, by rw [List.length_finRange]; exact i.isLt, ?_, fun j hj => ?_⟩
  · rw [List.getElem_finRange]
    rfl
  · rw [List.getElem_finRange, Bool.not_eq_true']
    exact hlow _ hj

/-- The lowest-numbered holiday entry that holds the day number names the profile (R92, R93). -/
theorem dayProfileFor_holiday {p : Plan} {day : Nat} {h : Fin 16} (hused : p.holidays[h].day ≠ 0)
    (hday : p.holidays[h].day.toNat = day)
    (hlow : ∀ y : Fin 16, y < h → p.holidays[y].day = 0 ∨ p.holidays[y].day.toNat ≠ day) :
    dayProfileFor p day = p.holidays[h].profile := by
  have hfind : (List.finRange 16).find? (fun h : Fin 16 =>
      p.holidays[h].day != 0 && p.holidays[h].day.toNat == day) = some h := by
    refine find?_finRange_eq_some (by rw [bne_iff_ne.mpr hused, beq_iff_eq.mpr hday]; rfl) fun y hy => ?_
    rcases hlow y hy with hz | hn
    · rw [bne_eq_false_iff_eq.mpr hz, Bool.false_and]
    · rw [beq_eq_false_iff_ne.mpr hn, Bool.and_false]
  unfold dayProfileFor
  rw [hfind]

/-- A day that no holiday entry holds has the profile of the week map (R93). -/
theorem dayProfileFor_week {p : Plan} {day : Nat} {d : Fin 7}
    (hnone : ∀ y : Fin 16, p.holidays[y].day = 0 ∨ p.holidays[y].day.toNat ≠ day) (hd : d.val = (day + 5) % 7) :
    dayProfileFor p day = p.weekMap[d] := by
  have hfind : (List.finRange 16).find? (fun h : Fin 16 =>
      p.holidays[h].day != 0 && p.holidays[h].day.toNat == day) = none := by
    rw [List.find?_eq_none]
    intro y _ hy
    rw [Bool.and_eq_true, bne_iff_ne, beq_iff_eq] at hy
    rcases hnone y with hz | hn
    · exact hy.1 hz
    · exact hn hy.2
  unfold dayProfileFor
  rw [hfind]
  simp only [Fin.getElem_fin, hd]

/-- The band of a half-hour slot stands in day-profile entry 3 × profile + slot / 16 (R2, R92). -/
theorem bandOf_eq {p : Plan} {profile : Fin 4} {slot : Fin 48} {i : Fin 12} {j : Fin 16}
    (hi : i.val = 3 * profile.val + slot.val / 16) (hj : j.val = slot.val % 16) :
    bandOf p profile slot = (p.dayProfiles[i])[j] := by
  simp only [bandOf, Fin.getElem_fin, hi, hj]

/-- Settles O16, by which of the two names the profile of the day: a holiday entry or the week map. -/
theorem bandFollowsTheCalendar : Obligations.BandFollowsTheCalendar := by
  rintro p t day slot profile i j rfl rfl hi hj hprofile
  have hday : dayProfileFor p (t.toNat / 86400) = profile := by
    rcases hprofile with ⟨h, hused, hday, hlow, rfl⟩ | ⟨hnone, d, hd, rfl⟩
    · exact dayProfileFor_holiday hused hday hlow
    · exact dayProfileFor_week hnone hd
  unfold lookupBand
  rw [hday]
  exact bandOf_eq hi hj

end Sys2Proof.Machine
end

section
/-! SUPPORT. The members of a zone and the shares of its pool (R16 to R18, R55). -/

namespace Sys2Proof.Machine

/-! ## The members of a zone -/

/-- A member's factor in the words of R17. -/
theorem Plan.factor_eq (p : Plan) (k : KeyEntry) :
    p.factor k = if k.factor = 0 then p.units[k.unit].area.toNat else k.factor.toNat := by
  have hzero : k.factor = 0 ↔ k.factor.toNat = 0 := BitVec.toNat_eq
  simp only [Plan.factor, hzero]

/-- The members are those of the keys that name the zone. -/
theorem Plan.mem_members {p : Plan} {z : ZoneId} {m : Member} : m ∈ p.members z ↔
    p.keys[m.key].zone = some z ∧ m.unit = p.keys[m.key].unit ∧ m.factor = p.factor p.keys[m.key] := by
  unfold Plan.members
  rw [List.mem_filterMap]
  constructor
  · rintro ⟨k, _, hk⟩
    split at hk
    · rename_i hz
      cases hk
      exact ⟨hz, rfl, rfl⟩
    · cases hk
  · rintro ⟨hz, hu, hf⟩
    refine ⟨m.key, List.mem_finRange _, ?_⟩
    rw [if_pos hz, ← hu, ← hf]

/-- The key indexes of the members, in rotation order (R16). -/
theorem Plan.members_keys (p : Plan) (z : ZoneId) :
    (p.members z).map (·.key) = (List.finRange 2048).filter fun k : KeyId => decide (p.keys[k].zone = some z) := by
  unfold Plan.members
  rw [List.map_filterMap, ← List.filterMap_eq_filter]
  refine congrArg (List.filterMap · _) (funext fun k => ?_)
  by_cases hz : p.keys[k].zone = some z
  · simp only [Option.guard, if_pos hz, decide_eq_true hz, Option.map_some, if_true]
  · simp only [Option.guard, if_neg hz, decide_eq_false hz, Option.map_none, Bool.false_eq_true, if_false]

theorem Plan.members_ascending (p : Plan) (z : ZoneId) : ((p.members z).map (·.key)).Pairwise (· < ·) := by
  rw [Plan.members_keys]
  exact (List.pairwise_lt_finRange 2048).filter _

/-! ## The proportional parts (R17, R55) -/

/-- What the proportional parts come to when the pool is shared by any weight `w`: each lies less than 1 Wh below the
exact part. -/
theorem proportional_sum_bounds (p : Nat) {w : Nat} (hw : 0 < w) (ms : List Member) :
    w * (ms.map (proportional p w)).sum ≤ p * weight ms ∧
      p * weight ms + ms.length ≤ w * (ms.map (proportional p w)).sum + ms.length * w := by
  induction ms with
  | nil => simp [weight]
  | cons m ms ih =>
    have hweight : weight (m :: ms) = m.factor + weight ms := by simp [weight]
    have hdiv := Nat.div_add_mod (p * m.factor) w
    have hmod := Nat.mod_lt (p * m.factor) hw
    obtain ⟨hle, hge⟩ := ih
    rw [hweight, List.map_cons, List.sum_cons, List.length_cons, Nat.mul_add, Nat.mul_add, Nat.add_mul]
    unfold proportional at *
    constructor <;> omega

/-- The proportional parts do not pass the pool. -/
theorem proportional_sum_le {p : Nat} {ms : List Member} (hw : weight ms ≠ 0) :
    (ms.map (proportional p (weight ms))).sum ≤ p := by
  have hpos := Nat.pos_of_ne_zero hw
  have hle := (proportional_sum_bounds p hpos ms).1
  rw [Nat.mul_comm] at hle
  exact Nat.le_of_mul_le_mul_right hle hpos

/-- The remainder is less than 1 Wh for each member (R55). -/
theorem sharingRemainder_lt {p : Nat} {ms : List Member} (hne : ms ≠ []) (hw : weight ms ≠ 0) :
    sharingRemainder p ms < ms.length := by
  have hpos := Nat.pos_of_ne_zero hw
  have hlen := List.length_pos_iff.mpr hne
  have hge := (proportional_sum_bounds p hpos ms).2
  unfold sharingRemainder
  generalize (ms.map (proportional p (weight ms))).sum = S at hge
  refine Nat.lt_of_mul_lt_mul_right (a := weight ms) ?_
  rw [Nat.sub_mul, Nat.mul_comm S]
  have : 0 < ms.length * weight ms := Nat.mul_pos hlen hpos
  omega

/-! ## The rotation (R18) -/

/-- The start member is a member. -/
theorem startPosition_lt {pointer : KeyId} {ms : List Member} (hne : ms ≠ []) :
    startPosition pointer ms < ms.length := by
  unfold startPosition
  split
  · rename_i i hi
    exact (List.findIdx?_eq_some_iff_getElem.mp hi).1
  · exact List.length_pos_iff.mpr hne

/-- The start member is the first at or above the pointer, or the first of all where none is. -/
theorem startPosition_spec {pointer : KeyId} {ms : List Member} {m : Member}
    (hm : ms[startPosition pointer ms]? = some m) :
    (pointer ≤ m.key ∧ ∀ i x, i < startPosition pointer ms → ms[i]? = some x → x.key < pointer) ∨
      (startPosition pointer ms = 0 ∧ ∀ x ∈ ms, x.key < pointer) := by
  cases hfind : ms.findIdx? fun m => decide (pointer ≤ m.key) with
  | some i =>
    have hstart : startPosition pointer ms = i := by unfold startPosition; rw [hfind]
    obtain ⟨hi, hle, hlow⟩ := List.findIdx?_eq_some_iff_getElem.mp hfind
    rw [hstart] at hm ⊢
    rw [List.getElem?_eq_getElem hi, Option.some_inj] at hm
    refine .inl ⟨hm ▸ of_decide_eq_true hle, fun j x hj hx => ?_⟩
    rw [List.getElem?_eq_getElem (by omega), Option.some_inj] at hx
    have := hlow j hj
    rw [hx, decide_eq_true_eq] at this
    exact Fin.not_le.mp this
  | none =>
    have hstart : startPosition pointer ms = 0 := by unfold startPosition; rw [hfind]
    refine .inr ⟨hstart, fun x hx => ?_⟩
    exact Fin.not_le.mp (of_decide_eq_false (List.findIdx?_eq_none_iff.mp hfind x hx))

/-- How many places after the start position `start` a position `i` of `n` is reached in rotation order. -/
def rotationPlace (n start i : Nat) : Nat := (i + n - start) % n

/-- The position reached after `k` places is `(start + k) mod n`. -/
theorem rotationPlace_eq_iff {n start i k : Nat} (hs : start < n) (hi : i < n) (hk : k < n) :
    rotationPlace n start i = k ↔ i = (start + k) % n := by
  unfold rotationPlace
  have hleft : (i + n - start) % n = if start ≤ i then i - start else i + n - start := by
    split
    · rw [show i + n - start = i - start + n by omega, Nat.add_mod_right, Nat.mod_eq_of_lt (by omega)]
    · rw [Nat.mod_eq_of_lt (by omega)]
  have hright : (start + k) % n = if start + k < n then start + k else start + k - n := by
    split
    · rename_i h
      exact Nat.mod_eq_of_lt h
    · rw [Nat.mod_eq_sub_mod (by omega), Nat.mod_eq_of_lt (by omega)]
  rw [hleft, hright]
  split <;> split <;> omega

theorem rotationPlace_lt {n start i : Nat} (hn : 0 < n) : rotationPlace n start i < n := Nat.mod_lt _ hn

/-- The places of the `n` positions are the numbers below `n` in another order: the positions from the start on come
first, those before it last. -/
theorem rotationPlaces_perm {n start : Nat} (hs : start ≤ n) :
    ((List.range n).map (rotationPlace n start)).Perm (List.range n) := by
  obtain ⟨k, rfl⟩ := Nat.exists_eq_add_of_le hs
  have before : (List.range start).map (rotationPlace (start + k) start) = (List.range start).map (k + ·) := by
    refine List.map_congr_left fun i hi => ?_
    have hlt := List.mem_range.mp hi
    unfold rotationPlace
    rw [show i + (start + k) - start = k + i by omega, Nat.mod_eq_of_lt (by omega)]
  have after : ((List.range k).map (start + ·)).map (rotationPlace (start + k) start) = List.range k := by
    rw [List.map_map]
    refine (List.map_congr_left fun j hj => ?_).trans (List.map_id _)
    have hlt := List.mem_range.mp hj
    show (start + j + (start + k) - start) % (start + k) = j
    rw [show start + j + (start + k) - start = j + (start + k) by omega, Nat.add_mod_right, Nat.mod_eq_of_lt (by omega)]
  have places : (List.range (start + k)).map (rotationPlace (start + k) start) =
      (List.range start).map (k + ·) ++ List.range k := by rw [List.range_add, List.map_append, before, after]
  have numbers : List.range (start + k) = List.range k ++ (List.range start).map (k + ·) := by
    rw [Nat.add_comm, List.range_add]
  rw [places, numbers]
  exact List.perm_append_comm

/-- Two parts of each figure are summed part by part. -/
theorem sum_map_add_nat {α : Type} (f g : α → Nat) (l : List α) :
    (l.map fun a => f a + g a).sum = (l.map f).sum + (l.map g).sum := by
  induction l with
  | nil => rfl
  | cons a l ih =>
    simp only [List.map_cons, List.sum_cons, ih]
    omega

/-- What the member at place `k` gets of a remainder `r`: 1 Wh at each of the first `r` places. -/
def extraWh (r k : Nat) : Nat := if k < r then 1 else 0

/-- The first `r` places get the remainder `r` between them. -/
theorem sum_extraWh (n r : Nat) : ((List.range n).map (extraWh r)).sum = min n r := by
  induction n with
  | zero => simp
  | succ n ih =>
    rw [List.range_succ, List.map_append, List.sum_append, ih, List.map_singleton, List.sum_singleton]
    unfold extraWh
    split <;> omega

/-! ## The shares (R55) -/

/-- A share is the proportional part, and 1 Wh where the member is reached within the remainder. -/
theorem shareOut_eq (p : Nat) (pointer : KeyId) (ms : List Member) : shareOut p pointer ms =
    ms.zipIdx.map fun x => (x.1, proportional p (weight ms) x.1 +
      extraWh (sharingRemainder p ms) (rotationPlace ms.length (startPosition pointer ms) x.2)) := rfl

/-- The shares are those of the members, in their order. -/
theorem shareOut_members (p : Nat) (pointer : KeyId) (ms : List Member) :
    (shareOut p pointer ms).map (·.1) = ms := by
  rw [shareOut_eq, List.map_map]
  exact List.zipIdx_map_fst 0 ms

theorem shareOut_getElem? {p : Nat} {pointer : KeyId} {ms : List Member} {i share : Nat} {m : Member}
    (h : (shareOut p pointer ms)[i]? = some (m, share)) : i < ms.length ∧
      share = proportional p (weight ms) m +
        extraWh (sharingRemainder p ms) (rotationPlace ms.length (startPosition pointer ms) i) := by
  rw [shareOut_eq, List.getElem?_map, List.getElem?_zipIdx, Option.map_map, Option.map_eq_some_iff] at h
  obtain ⟨x, hx, he⟩ := h
  obtain ⟨hi, _⟩ := List.getElem?_eq_some_iff.mp hx
  simp only [Function.comp_apply, Nat.zero_add, Prod.mk.injEq] at he
  obtain ⟨rfl, rfl⟩ := he
  exact ⟨hi, rfl⟩

/-- The shares come to the pool exactly: the proportional parts and, since the places are the numbers below the number
of members, the whole remainder. -/
theorem shareOut_sum {p : Nat} {pointer : KeyId} {ms : List Member} (hne : ms ≠ []) (hw : weight ms ≠ 0) :
    ((shareOut p pointer ms).map (·.2)).sum = p := by
  have hparts : (ms.zipIdx.map fun x => proportional p (weight ms) x.1).sum =
      (ms.map (proportional p (weight ms))).sum :=
    calc _ = ((ms.zipIdx.map Prod.fst).map (proportional p (weight ms))).sum := by rw [List.map_map]; rfl
      _ = _ := by rw [List.zipIdx_map_fst]
  have hplaces := rotationPlaces_perm (Nat.le_of_lt (startPosition_lt (pointer := pointer) hne))
  have hextra : (ms.zipIdx.map fun x =>
      extraWh (sharingRemainder p ms) (rotationPlace ms.length (startPosition pointer ms) x.2)).sum =
        sharingRemainder p ms :=
    calc _ = (((List.range ms.length).map (rotationPlace ms.length (startPosition pointer ms))).map
              (extraWh (sharingRemainder p ms))).sum := by
            rw [List.range_eq_range', ← List.zipIdx_map_snd, List.map_map, List.map_map]
            rfl
      _ = ((List.range ms.length).map (extraWh (sharingRemainder p ms))).sum := (hplaces.map _).sum_nat
      _ = sharingRemainder p ms := by rw [sum_extraWh, Nat.min_eq_right (Nat.le_of_lt (sharingRemainder_lt hne hw))]
  calc ((shareOut p pointer ms).map (·.2)).sum
      = (ms.zipIdx.map fun x => proportional p (weight ms) x.1 +
          extraWh (sharingRemainder p ms) (rotationPlace ms.length (startPosition pointer ms) x.2)).sum := by
        rw [shareOut_eq, List.map_map]
        rfl
    _ = (ms.map (proportional p (weight ms))).sum + sharingRemainder p ms := by
        rw [sum_map_add_nat, hparts, hextra]
    _ = p := Nat.add_sub_of_le (proportional_sum_le hw)

/-- 1 Wh of the remainder goes to the members reached within it. -/
theorem shareOut_extra_iff {p : Nat} {pointer : KeyId} {ms : List Member} {i share : Nat} {m : Member}
    (hne : ms ≠ []) (hw : weight ms ≠ 0) (h : (shareOut p pointer ms)[i]? = some (m, share)) :
    share = proportional p (weight ms) m + 1 ↔
      ∃ k, k < sharingRemainder p ms ∧ i = (startPosition pointer ms + k) % ms.length := by
  obtain ⟨hi, rfl⟩ := shareOut_getElem? h
  have hs := startPosition_lt (pointer := pointer) hne
  have hr := sharingRemainder_lt (p := p) hne hw
  have hplace : rotationPlace ms.length (startPosition pointer ms) i < sharingRemainder p ms ↔
      ∃ k, k < sharingRemainder p ms ∧ i = (startPosition pointer ms + k) % ms.length := by
    constructor
    · intro hlt
      exact ⟨_, hlt, (rotationPlace_eq_iff hs hi (Nat.lt_trans hlt hr)).mp rfl⟩
    · rintro ⟨k, hk, he⟩
      rwa [(rotationPlace_eq_iff hs hi (Nat.lt_trans hk hr)).mpr he]
  rw [← hplace]
  unfold extraWh
  split
  · rename_i hlt
    exact ⟨fun _ => hlt, fun _ => rfl⟩
  · rename_i hnot
    exact ⟨fun he => absurd he (by omega), fun hlt => absurd hlt hnot⟩

/-- A share is the proportional part or 1 Wh more. -/
theorem shareOut_bounds {p : Nat} {pointer : KeyId} {ms : List Member} {x : Member × Nat}
    (hx : x ∈ shareOut p pointer ms) :
    proportional p (weight ms) x.1 ≤ x.2 ∧ x.2 ≤ proportional p (weight ms) x.1 + 1 := by
  obtain ⟨i, hi⟩ := List.mem_iff_getElem?.mp hx
  obtain ⟨_, hshare⟩ := shareOut_getElem? hi
  rw [hshare]
  unfold extraWh
  split <;> omega

/-- The pointer moves to the member after the last one reached, where a remainder was handed out (R18). -/
theorem pointerAfter_spec {p : Nat} {pointer : KeyId} {ms : List Member} (hne : ms ≠ [])
    (hr : sharingRemainder p ms ≠ 0) :
    ∃ m, ms[(startPosition pointer ms + sharingRemainder p ms) % ms.length]? = some m ∧
      pointerAfter p pointer ms = m.key := by
  have hlt := Nat.mod_lt (startPosition pointer ms + sharingRemainder p ms) (List.length_pos_iff.mpr hne)
  refine ⟨_, List.getElem?_eq_getElem hlt, ?_⟩
  unfold pointerAfter
  dsimp only
  rw [if_neg hr, List.getElem?_eq_getElem hlt]

/-- Settles O23: the members by the keys that name the zone, the shares by the bounds on the proportional parts and the
order in which the rotation reaches the members. -/
theorem sharingIsExact : Obligations.SharingIsExact := by
  refine ⟨fun p z => ⟨p.members_ascending z, fun m => ?_⟩, fun _ => rfl, fun p pointer ms hne hw => ?_⟩
  · rw [← Plan.factor_eq]
    exact Plan.mem_members
  · exact ⟨shareOut_members p pointer ms, shareOut_sum hne hw, fun _ => shareOut_bounds, sharingRemainder_lt hne hw,
      fun _ _ _ => shareOut_extra_iff hne hw, fun _ => startPosition_spec, fun h => if_pos h, pointerAfter_spec hne⟩

end Sys2Proof.Machine
end

section
/-! SUPPORT. The plan entries and their 16 bytes (R180, R181): bit fields of packed words, and one equivalence
for each kind of entry. -/

namespace Sys2Proof.Machine

/-! ## Packed words and their bit fields -/

/-- What the fields of a word (lowest bit, width, value) sum to. -/
def fieldsSum (fs : List (Nat × Nat × Nat)) : Nat := (fs.map fun f => f.2.2 % 2 ^ f.2.1 * 2 ^ f.1).sum

theorem fieldsSum_nil : fieldsSum [] = 0 := rfl

theorem fieldsSum_cons (lo width v : Nat) (fs : List (Nat × Nat × Nat)) :
    fieldsSum ((lo, width, v) :: fs) = v % 2 ^ width * 2 ^ lo + fieldsSum fs := by
  rw [fieldsSum, List.map_cons, List.sum_cons, fieldsSum]

/-- A packed word is the word whose value its fields sum to. -/
theorem packWord_eq_iff {fs : List (Nat × Nat × Nat)} (h : fieldsFit 0 fs = true) (w : Word) :
    packWord fs = w ↔ fieldsSum fs = w.toNat := by
  obtain ⟨k, hsum, _, hpack⟩ := packWord_sum h
  rw [← BitVec.toNat_inj, hpack, ← hsum, fieldsSum]

/-- The layout of a header's word 0 (R180). -/
theorem packWord_2_1_eq_iff {a b : Nat} (ha : a < 4) (hb : b < 2) (w : Word) :
    packWord [(0, 2, a), (8, 1, b)] = w ↔
      (bits w 7 2 = 0 ∧ bits w 31 9 = 0) ∧ bits w 1 0 = a ∧ bits w 8 8 = b := by
  have hw := w.isLt
  rw [packWord_eq_iff rfl]
  simp only [fieldsSum_cons, fieldsSum_nil, bits]
  omega

/-- The layout of a zone's word 0 (R180). -/
theorem packWord_1_8_eq_iff {a b : Nat} (ha : a < 2) (hb : b < 256) (w : Word) :
    packWord [(0, 1, a), (8, 8, b)] = w ↔
      (bits w 7 1 = 0 ∧ bits w 31 16 = 0) ∧ bits w 0 0 = a ∧ bits w 15 8 = b := by
  have hw := w.isLt
  rw [packWord_eq_iff rfl]
  simp only [fieldsSum_cons, fieldsSum_nil, bits]
  omega

/-- The layout of word 0 of a unit and of a holiday (R180). -/
theorem packWord_16_8_eq_iff {a b : Nat} (ha : a < 65536) (hb : b < 256) (w : Word) :
    packWord [(0, 16, a), (16, 8, b)] = w ↔ bits w 31 24 = 0 ∧ bits w 15 0 = a ∧ bits w 23 16 = b := by
  have hw := w.isLt
  rw [packWord_eq_iff rfl]
  simp only [fieldsSum_cons, fieldsSum_nil, bits]
  omega

/-- The layout of a meter's word 1 (R180). -/
theorem packWord_8_8_eq_iff {a b : Nat} (ha : a < 256) (hb : b < 256) (w : Word) :
    packWord [(0, 8, a), (8, 8, b)] = w ↔ bits w 31 16 = 0 ∧ bits w 7 0 = a ∧ bits w 15 8 = b := by
  have hw := w.isLt
  rw [packWord_eq_iff rfl]
  simp only [fieldsSum_cons, fieldsSum_nil, bits]
  omega

/-- The layout of word 0 of a meter and of a key (R180). -/
theorem packWord_8_8_16_eq_iff {a b c : Nat} (ha : a < 256) (hb : b < 256) (hc : c < 65536) (w : Word) :
    packWord [(0, 8, a), (8, 8, b), (16, 16, c)] = w ↔ bits w 7 0 = a ∧ bits w 15 8 = b ∧ bits w 31 16 = c := by
  have hw := w.isLt
  rw [packWord_eq_iff rfl]
  simp only [fieldsSum_cons, fieldsSum_nil, bits]
  omega

theorem bits_lt (w : Word) (hi lo : Nat) : bits w hi lo < 2 ^ (hi + 1 - lo) := Nat.mod_lt _ (Nat.two_pow_pos _)

theorem word_ofNat_toNat (w : Word) : BitVec.ofNat 32 w.toNat = w := by
  rw [BitVec.ofNat_toNat, BitVec.setWidth_eq]

/-- An entry is its four words. -/
theorem quad_eq_iff {a b c d : Word} {q : Quad} :
    Quad.mk a b c d = q ↔ a = q.w0 ∧ b = q.w1 ∧ c = q.w2 ∧ d = q.w3 := by
  cases q
  rw [Quad.mk.injEq]

/-! ## Codes (R180) -/

theorem intervalOfCode_eq_some {n : Nat} {l : IntervalLen} : intervalOfCode n = some l ↔ n = l.code := by
  constructor
  · unfold intervalOfCode
    split <;> rintro ⟨⟩ <;> rfl
  · rintro rfl
    cases l <;> rfl

theorem kindOfCode_eq_some {n : Nat} {k : MeterKind} : kindOfCode n = some k ↔ n = k.code := by
  constructor
  · unfold kindOfCode
    split <;> rintro ⟨⟩ <;> rfl
  · rintro rfl
    cases k <;> rfl

theorem mediumOfCode_eq_some {n : Nat} {m : Medium} : mediumOfCode n = some m ↔ n = mediumCode m := by
  constructor
  · unfold mediumOfCode
    split <;> rintro ⟨⟩ <;> rfl
  · rintro rfl
    cases m <;> rfl

theorem scaleOfCode_eq_some {n : Nat} {x : Scale} : scaleOfCode n = some x ↔ n = x.code := by
  constructor
  · unfold scaleOfCode
    split <;> rintro ⟨⟩ <;> rfl
  · rintro rfl
    cases x <;> rfl

/-- A one-bit field is the bit of a flag. -/
theorem beq_one_eq_iff {n : Nat} (h : n < 2) (b : Bool) : (n == 1) = b ↔ n = flag b := by
  have : n = 0 ∨ n = 1 := by omega
  rcases this with rfl | rfl <;> cases b <;> decide

/-- A field as a word of its own width. -/
theorem ofNat16_eq_iff {n : Nat} (h : n < 65536) (x : BitVec 16) : BitVec.ofNat 16 n = x ↔ n = x.toNat := by
  rw [← BitVec.toNat_inj, BitVec.toNat_ofNat, Nat.mod_eq_of_lt h]

theorem flag_lt (b : Bool) : flag b < 2 := by cases b <;> decide
theorem IntervalLen.code_lt (l : IntervalLen) : l.code < 4 := by cases l <;> decide
theorem MeterKind.code_lt (k : MeterKind) : k.code < 256 := by cases k <;> decide
theorem mediumCode_lt (m : Medium) : mediumCode m < 256 := by cases m <;> decide
theorem Scale.code_lt (x : Scale) : x.code < 256 := by cases x <;> decide

/-! ## One kind of entry at a time

The field checks pass the bytes `q` as the entry `e` exactly where `q` are the bytes of `e` and the fields lie in their
accepted values. -/

theorem headerOf_eq_some {q : Quad} {h : Header} : headerOf q = some h ↔ encodeEntry (.header h) = q := by
  obtain ⟨len, lock⟩ := h
  unfold headerOf encodeEntry
  rw [quad_eq_iff, packWord_2_1_eq_iff len.code_lt (flag_lt lock)]
  have hlock := beq_one_eq_iff (bits_lt q.w0 8 8) lock
  simp only [Option.ite_none_right_eq_some, Option.map_eq_some_iff, intervalOfCode_eq_some, Header.mk.injEq]
  constructor
  · rintro ⟨⟨h2, h9, h1, hw2, hw3⟩, l, hl, rfl, hb⟩
    exact ⟨⟨⟨h2, h9⟩, hl, hlock.mp hb⟩, h1.symm, hw2.symm, hw3.symm⟩
  · rintro ⟨⟨⟨h2, h9⟩, hl, hb⟩, h1, hw2, hw3⟩
    exact ⟨⟨h2, h9, h1.symm, hw2.symm, hw3.symm⟩, len, hl, rfl, hlock.mpr hb⟩

theorem unitOf_eq_some {i : UnitId} {q : Quad} {e : UnitEntry} : unitOf q = some e ↔ encodeEntry (.unit i e) = q := by
  obtain ⟨area, tariff⟩ := e
  unfold unitOf encodeEntry
  rw [quad_eq_iff, packWord_16_8_eq_iff area.isLt (by have := tariff.isLt; omega)]
  have harea := ofNat16_eq_iff (bits_lt q.w0 15 0) area
  simp only [Option.ite_none_right_eq_some, Option.map_eq_some_iff, finOf_eq_some, UnitEntry.mk.injEq]
  constructor
  · rintro ⟨⟨h24, h1, h2, h3⟩, t, ht, ha, rfl⟩
    exact ⟨⟨h24, harea.mp ha, ht.symm⟩, h1.symm, h2.symm, h3.symm⟩
  · rintro ⟨⟨h24, ha, ht⟩, h1, h2, h3⟩
    exact ⟨⟨h24, h1.symm, h2.symm, h3.symm⟩, tariff, ht.symm, harea.mpr ha, rfl⟩

theorem zoneOf_eq_some {i : ZoneId} {q : Quad} {e : ZoneEntry} : zoneOf q = some e ↔ encodeEntry (.zone i e) = q := by
  obtain ⟨enable, medium⟩ := e
  unfold zoneOf encodeEntry
  rw [quad_eq_iff, packWord_1_8_eq_iff (flag_lt enable) (mediumCode_lt medium)]
  have henable := beq_one_eq_iff (bits_lt q.w0 0 0) enable
  simp only [Option.ite_none_right_eq_some, Option.map_eq_some_iff, mediumOfCode_eq_some, ZoneEntry.mk.injEq]
  constructor
  · rintro ⟨⟨h7, h16, h1, h2, h3⟩, m, hm, he, rfl⟩
    exact ⟨⟨⟨h7, h16⟩, henable.mp he, hm⟩, h1.symm, h2.symm, h3.symm⟩
  · rintro ⟨⟨⟨h7, h16⟩, he, hm⟩, h1, h2, h3⟩
    exact ⟨⟨h7, h16, h1.symm, h2.symm, h3.symm⟩, medium, hm, henable.mpr he, rfl⟩

theorem holidayOf_eq_some {i : Fin 16} {q : Quad} {e : Holiday} :
    holidayOf q = some e ↔ encodeEntry (.holiday i e) = q ∧ (PlanEntry.holiday i e).inRange := by
  obtain ⟨day, profile⟩ := e
  unfold holidayOf encodeEntry PlanEntry.inRange
  rw [quad_eq_iff, packWord_16_8_eq_iff day.isLt (by have := profile.isLt; omega)]
  have hday := ofNat16_eq_iff (bits_lt q.w0 15 0) day
  simp only [Option.ite_none_right_eq_some, Option.map_eq_some_iff, finOf_eq_some, Holiday.mk.injEq]
  constructor
  · rintro ⟨⟨hmax, h24, h1, h2, h3⟩, t, ht, hd, rfl⟩
    exact ⟨⟨⟨h24, hday.mp hd, ht.symm⟩, h1.symm, h2.symm, h3.symm⟩, hday.mp hd ▸ hmax⟩
  · rintro ⟨⟨⟨h24, hd, ht⟩, h1, h2, h3⟩, hmax⟩
    exact ⟨⟨hd ▸ hmax, h24, h1.symm, h2.symm, h3.symm⟩, profile, ht.symm, hday.mpr hd, rfl⟩

/-- Each price fills its word. -/
theorem priceOf_eq_some {i : Fin 32} {q : Quad} {e : Both Nat} :
    priceOf q = some e ↔ encodeEntry (.price i e) = q ∧ (PlanEntry.price i e).inRange := by
  obtain ⟨heat, cool⟩ := e
  unfold priceOf encodeEntry PlanEntry.inRange
  rw [quad_eq_iff]
  simp only [Option.ite_none_right_eq_some, Option.some_inj, Both.mk.injEq]
  constructor
  · rintro ⟨⟨h0, h1, h2, h3⟩, rfl, rfl⟩
    exact ⟨⟨word_ofNat_toNat _, word_ofNat_toNat _, h2.symm, h3.symm⟩, h0, h1⟩
  · rintro ⟨⟨h0, h1, h2, h3⟩, hheat, hcool⟩
    have e0 : q.w0.toNat = heat := by rw [← h0, BitVec.toNat_ofNat, Nat.mod_eq_of_lt (by omega)]
    have e1 : q.w1.toNat = cool := by rw [← h1, BitVec.toNat_ofNat, Nat.mod_eq_of_lt (by omega)]
    exact ⟨⟨e0 ▸ hheat, e1 ▸ hcool, h2.symm, h3.symm⟩, e0, e1⟩

theorem meterOf_eq_some {i : MeterId} {q : Quad} {e : MeterEntry} :
    meterOf q = some e ↔ encodeEntry (.meter i e) = q ∧ (PlanEntry.meter i e).inRange := by
  obtain ⟨kind, medium, binding, scale, digits, ratedMax⟩ := e
  constructor
  · intro h
    unfold meterOf at h
    split at h
    · rename_i k m b x hk hm hb hx
      rw [kindOfCode_eq_some] at hk
      rw [mediumOfCode_eq_some] at hm
      rw [finOf_eq_some] at hb
      rw [scaleOfCode_eq_some] at hx
      rw [Option.ite_none_right_eq_some] at h
      obtain ⟨⟨hzone, hd5, hd9, h16, hr1, hr4, h3⟩, he⟩ := h
      cases he
      refine ⟨?_, hzone, hd5, hd9, hr1, hr4⟩
      unfold encodeEntry
      dsimp only
      rw [quad_eq_iff, packWord_8_8_16_eq_iff kind.code_lt (mediumCode_lt medium) (by have := binding.isLt; omega),
        packWord_8_8_eq_iff scale.code_lt (by omega)]
      exact ⟨⟨hk, hm, hb.symm⟩, ⟨h16, hx, rfl⟩, word_ofNat_toNat _, h3.symm⟩
    · cases h
  · rintro ⟨h, hzone, hd5, hd9, hr1, hr4⟩
    dsimp only at hzone hd5 hd9 hr1 hr4
    unfold encodeEntry at h
    dsimp only at h
    rw [quad_eq_iff, packWord_8_8_16_eq_iff kind.code_lt (mediumCode_lt medium) (by have := binding.isLt; omega),
      packWord_8_8_eq_iff scale.code_lt (by omega)] at h
    obtain ⟨⟨hk, hm, hb⟩, ⟨h16, hx, hd⟩, h2, h3⟩ := h
    have hr : q.w2.toNat = ratedMax := by rw [← h2, BitVec.toNat_ofNat, Nat.mod_eq_of_lt (by omega)]
    unfold meterOf
    rw [kindOfCode_eq_some.mpr hk, mediumOfCode_eq_some.mpr hm, finOf_eq_some.mpr hb.symm, scaleOfCode_eq_some.mpr hx]
    dsimp only
    rw [hd, hr, if_pos ⟨hzone, hd5, hd9, h16, hr1, hr4, h3.symm⟩]

/-- Zone field 63 marks an empty key (R15, R180). -/
theorem keyOf_eq_some {i : KeyId} {q : Quad} {e : KeyEntry} : keyOf q = some e ↔ encodeEntry (.key i e) = q := by
  obtain ⟨zone, unit, factor⟩ := e
  have hfactor := ofNat16_eq_iff (bits_lt q.w0 31 16) factor
  have hunit : Fin.ofNat 256 (bits q.w0 15 8) = unit ↔ bits q.w0 15 8 = unit.val := by
    have := bits_lt q.w0 15 8
    rw [Fin.ext_iff, Fin.val_ofNat, Nat.mod_eq_of_lt (by omega)]
  have hword (z : Nat) (hz : z < 256) := packWord_8_8_16_eq_iff hz unit.isLt factor.isLt q.w0
  unfold keyOf encodeEntry
  dsimp only
  rw [quad_eq_iff, Option.ite_none_right_eq_some]
  cases zone with
  | none =>
    rw [hword 63 (by decide)]
    constructor
    · rintro ⟨⟨h1, h2, h3⟩, h⟩
      split at h
      · rename_i hz
        rw [Option.some_inj, KeyEntry.mk.injEq] at h
        obtain ⟨_, hu, hf⟩ := h
        exact ⟨⟨hz, hunit.mp hu, hfactor.mp hf⟩, h1.symm, h2.symm, h3.symm⟩
      · rw [Option.map_eq_some_iff] at h
        obtain ⟨z, _, hz⟩ := h
        cases hz
    · rintro ⟨⟨hz, hu, hf⟩, h1, h2, h3⟩
      rw [if_pos hz, hunit.mpr hu, hfactor.mpr hf]
      exact ⟨⟨h1.symm, h2.symm, h3.symm⟩, rfl⟩
  | some z =>
    have hlt := z.isLt
    rw [hword z.val (by omega)]
    constructor
    · rintro ⟨⟨h1, h2, h3⟩, h⟩
      split at h
      · cases h
      · rw [Option.map_eq_some_iff] at h
        obtain ⟨y, hy, h⟩ := h
        rw [finOf_eq_some] at hy
        rw [KeyEntry.mk.injEq, Option.some_inj] at h
        obtain ⟨rfl, hu, hf⟩ := h
        exact ⟨⟨hy.symm, hunit.mp hu, hfactor.mp hf⟩, h1.symm, h2.symm, h3.symm⟩
    · rintro ⟨⟨hz, hu, hf⟩, h1, h2, h3⟩
      rw [if_neg (by omega), hunit.mpr hu, hfactor.mpr hf, finOf_eq_some.mpr hz.symm]
      exact ⟨⟨h1.symm, h2.symm, h3.symm⟩, rfl⟩

/-! ## Entries of bytes: day profiles and the week map -/

/-- What holds of every byte of an entry, word by word. -/
theorem forall_byte_iff {P : Fin 16 → Prop} : (∀ b, P b) ↔
    (P 0 ∧ P 1 ∧ P 2 ∧ P 3) ∧ (P 4 ∧ P 5 ∧ P 6 ∧ P 7) ∧ (P 8 ∧ P 9 ∧ P 10 ∧ P 11) ∧ P 12 ∧ P 13 ∧ P 14 ∧ P 15 := by
  constructor
  · intro h
    exact ⟨⟨h 0, h 1, h 2, h 3⟩, ⟨h 4, h 5, h 6, h 7⟩, ⟨h 8, h 9, h 10, h 11⟩, h 12, h 13, h 14, h 15⟩
  · rintro ⟨⟨h0, h1, h2, h3⟩, ⟨h4, h5, h6, h7⟩, ⟨h8, h9, h10, h11⟩, h12, h13, h14, h15⟩ b
    match b with
    | ⟨0, _⟩ => exact h0
    | ⟨1, _⟩ => exact h1
    | ⟨2, _⟩ => exact h2
    | ⟨3, _⟩ => exact h3
    | ⟨4, _⟩ => exact h4
    | ⟨5, _⟩ => exact h5
    | ⟨6, _⟩ => exact h6
    | ⟨7, _⟩ => exact h7
    | ⟨8, _⟩ => exact h8
    | ⟨9, _⟩ => exact h9
    | ⟨10, _⟩ => exact h10
    | ⟨11, _⟩ => exact h11
    | ⟨12, _⟩ => exact h12
    | ⟨13, _⟩ => exact h13
    | ⟨14, _⟩ => exact h14
    | ⟨15, _⟩ => exact h15
    | ⟨n + 16, h⟩ => exact absurd h (by omega)

/-- The layout of a word of four bytes (R180). -/
theorem packWord_bytes_eq_iff {a b c d : Nat} (ha : a < 256) (hb : b < 256) (hc : c < 256) (hd : d < 256) (w : Word) :
    packWord [(0, 8, a), (8, 8, b), (16, 8, c), (24, 8, d)] = w ↔
      bits w 7 0 = a ∧ bits w 15 8 = b ∧ bits w 23 16 = c ∧ bits w 31 24 = d := by
  have hw := w.isLt
  rw [packWord_eq_iff rfl]
  simp only [fieldsSum_cons, fieldsSum_nil, bits]
  omega

/-- A word is 0 where its four bytes are. -/
theorem word_eq_zero_iff (w : Word) :
    w = 0 ↔ bits w 7 0 = 0 ∧ bits w 15 8 = 0 ∧ bits w 23 16 = 0 ∧ bits w 31 24 = 0 := by
  rw [eq_comm]
  exact packWord_bytes_eq_iff (a := 0) (b := 0) (c := 0) (d := 0) (by decide) (by decide) (by decide) (by decide) w

/-- Sixteen bytes make the entry that shows them at their places. -/
theorem bytesQuad_eq_iff {f : Fin 16 → Nat} (hf : ∀ b, f b < 256) {q : Quad} :
    bytesQuad f = q ↔ ∀ b, byteOf q b = f b := by
  have hword (j : Nat) (h : 4 * j + 3 < 16) (w : Word) : bytesWord f j h = w ↔ _ :=
    packWord_bytes_eq_iff (hf ⟨4 * j, by omega⟩) (hf ⟨4 * j + 1, by omega⟩) (hf ⟨4 * j + 2, by omega⟩)
      (hf ⟨4 * j + 3, by omega⟩) w
  unfold bytesQuad
  rw [quad_eq_iff, hword, hword, hword, hword, forall_byte_iff]
  exact Iff.rfl

theorem dayProfileOf_eq_some {i : Fin 12} {q : Quad} {e : Vector (Fin 8) 16} :
    dayProfileOf q = some e ↔ encodeEntry (.dayProfile i e) = q := by
  unfold dayProfileOf encodeEntry
  dsimp only
  rw [bytesQuad_eq_iff fun b => by have := e[b].isLt; omega, Option.ite_none_right_eq_some, Option.some_inj]
  constructor
  · rintro ⟨hlt, rfl⟩ b
    rw [getElem_ofFn_fin, Fin.val_ofNat, Nat.mod_eq_of_lt (hlt b)]
  · intro h
    refine ⟨fun b => by rw [h b]; exact e[b].isLt, Vector.ext fun b hb => ?_⟩
    rw [Vector.getElem_ofFn, h ⟨b, hb⟩, Fin.ofNat_val_eq_self]
    rfl

/-- Bytes 7 to 15 are 0 where byte 3 of word 1 and words 2 and 3 are. -/
theorem reserved_bytes_iff (q : Quad) : (∀ b : Fin 16, ¬ b.val < 7 → byteOf q b = 0) ↔
    bits q.w1 31 24 = 0 ∧ q.w2 = 0 ∧ q.w3 = 0 := by
  rw [word_eq_zero_iff, word_eq_zero_iff]
  constructor
  · intro h
    have h' (b : Fin 16) (hb : 7 ≤ b.val) : byteOf q b = 0 := h b (by omega)
    exact ⟨h' 7 (by decide), ⟨h' 8 (by decide), h' 9 (by decide), h' 10 (by decide), h' 11 (by decide)⟩,
      h' 12 (by decide), h' 13 (by decide), h' 14 (by decide), h' 15 (by decide)⟩
  · rintro ⟨h7, ⟨h8, h9, h10, h11⟩, h12, h13, h14, h15⟩
    have low {b : Fin 16} (hb : b.val < 7) : ¬ b.val < 7 → byteOf q b = 0 := fun h => absurd hb h
    exact forall_byte_iff.mpr ⟨⟨low (by decide), low (by decide), low (by decide), low (by decide)⟩,
      ⟨low (by decide), low (by decide), low (by decide), fun _ => h7⟩,
      ⟨fun _ => h8, fun _ => h9, fun _ => h10, fun _ => h11⟩,
      fun _ => h12, fun _ => h13, fun _ => h14, fun _ => h15⟩

/-- Bytes 0 to 6 of a week map name the profiles, the others are reserved. -/
theorem weekMapOf_eq_some {q : Quad} {e : Vector (Fin 4) 7} :
    weekMapOf q = some e ↔ encodeEntry (.weekMap e) = q := by
  have hbytes : ∀ b : Fin 16, (if h : b.val < 7 then e[b.val].val else 0) < 256 := by
    intro b
    split
    · rename_i h
      have := e[b.val].isLt
      omega
    · decide
  unfold weekMapOf encodeEntry
  dsimp only
  rw [bytesQuad_eq_iff hbytes, Option.ite_none_right_eq_some, Option.some_inj, ← reserved_bytes_iff]
  constructor
  · rintro ⟨⟨hlt, hreserved⟩, rfl⟩ b
    split
    · rename_i h
      rw [Vector.getElem_ofFn, Fin.val_ofNat]
      exact (Nat.mod_eq_of_lt (hlt ⟨b.val, h⟩)).symm
    · rename_i h
      exact hreserved b h
  · intro h
    have hprofile : ∀ d : Fin 7, byteOf q (d.castLE (by omega)) = e[d].val := fun d =>
      (h _).trans (dif_pos d.isLt)
    refine ⟨⟨fun d => by rw [hprofile d]; exact e[d].isLt, fun b hb => (h b).trans (dif_neg hb)⟩, ?_⟩
    refine Vector.ext fun d hd => ?_
    rw [Vector.getElem_ofFn, hprofile ⟨d, hd⟩, Fin.ofNat_val_eq_self]
    rfl

/-! ## Every entry -/

/-- An index found in a table that begins at entry number `c` leads back to the number. -/
theorem number_of_finOf {n c k : Nat} {g : Fin k → EntryId} {i : EntryId} (hc : c ≤ n)
    (hg : ∀ x, (g x).number = c + x.val) (h : (finOf k (n - c)).map g = some i) : i.number = n := by
  rw [Option.map_eq_some_iff] at h
  obtain ⟨x, hx, rfl⟩ := h
  rw [finOf_eq_some] at hx
  rw [hg, hx]
  omega

/-- The entry of a number has that number (R2, R116). -/
theorem number_of_entryOfNumber {n : Nat} {i : EntryId} (h : entryOfNumber n = some i) : i.number = n := by
  unfold entryOfNumber at h
  split at h
  · rename_i hn
    cases h
    exact hn.symm
  split at h
  · cases h
  split at h
  · exact number_of_finOf (by omega) (fun _ => rfl) h
  split at h
  · exact number_of_finOf (by omega) (fun _ => rfl) h
  split at h
  · exact number_of_finOf (by omega) (fun _ => rfl) h
  split at h
  · exact number_of_finOf (by omega) (fun _ => rfl) h
  split at h
  · exact number_of_finOf (by omega) (fun _ => rfl) h
  split at h
  · cases h
  split at h
  · rename_i hn
    cases h
    exact hn.symm
  split at h
  · exact number_of_finOf (by omega) (fun _ => rfl) h
  split at h
  · cases h
  · exact number_of_finOf (by omega) (fun _ => rfl) h

/-- One kind of entry: the field checks `o` and what makes an entry of the contents. -/
theorem map_eq_some_entry {α : Type} {o : Option α} {make : α → PlanEntry} {i : EntryId} {e : PlanEntry} {q : Quad}
    (hid : e.id = i ↔ ∃ x, make x = e)
    (h : ∀ x, o = some x ↔ encodeEntry (make x) = q ∧ (make x).inRange) :
    o.map make = some e ↔ e.id = i ∧ encodeEntry e = q ∧ e.inRange := by
  rw [Option.map_eq_some_iff, hid]
  constructor
  · rintro ⟨x, hx, rfl⟩
    exact ⟨⟨x, rfl⟩, (h x).mp hx⟩
  · rintro ⟨⟨x, rfl⟩, hq⟩
    exact ⟨x, (h x).mpr hq, rfl⟩

/-- At the number of an entry the decoder answers the bytes and accepted contents of that entry alone. -/
theorem decodeEntry_at {n : Nat} {i : EntryId} (hn : entryOfNumber n = some i) (q : Quad) (e : PlanEntry) :
    decodeEntry n q = some e ↔ e.id = i ∧ encodeEntry e = q ∧ e.inRange := by
  have free {P : Prop} : P ↔ P ∧ True := (and_iff_left trivial).symm
  unfold decodeEntry
  rw [hn]
  cases i with
  | header =>
    refine map_eq_some_entry ?_ fun x => headerOf_eq_some.trans free
    cases e <;> simp [PlanEntry.id]
  | unit i =>
    refine map_eq_some_entry ?_ fun x => unitOf_eq_some.trans free
    cases e <;> simp [PlanEntry.id, eq_comm]
  | meter i =>
    refine map_eq_some_entry ?_ fun x => meterOf_eq_some
    cases e <;> simp [PlanEntry.id, eq_comm]
  | zone i =>
    refine map_eq_some_entry ?_ fun x => zoneOf_eq_some.trans free
    cases e <;> simp [PlanEntry.id, eq_comm]
  | price i =>
    refine map_eq_some_entry ?_ fun x => priceOf_eq_some
    cases e <;> simp [PlanEntry.id, eq_comm]
  | dayProfile i =>
    refine map_eq_some_entry ?_ fun x => dayProfileOf_eq_some.trans free
    cases e <;> simp [PlanEntry.id, eq_comm]
  | weekMap =>
    refine map_eq_some_entry ?_ fun x => weekMapOf_eq_some.trans free
    cases e <;> simp [PlanEntry.id]
  | holiday i =>
    refine map_eq_some_entry ?_ fun x => holidayOf_eq_some
    cases e <;> simp [PlanEntry.id, eq_comm]
  | key i =>
    refine map_eq_some_entry ?_ fun x => keyOf_eq_some.trans free
    cases e <;> simp [PlanEntry.id, eq_comm]

/-- Settles O60, by the entry that the number names: read back, it is the number's own, and the field checks of its kind
pass its own bytes alone. -/
theorem planEntriesAndTheirBytesAgree : Obligations.PlanEntriesAndTheirBytesAgree := by
  refine ⟨fun e h => (decodeEntry_at (entryOfNumber_number e.id) _ _).mpr ⟨rfl, rfl, h⟩, fun n q e h => ?_⟩
  cases hn : entryOfNumber n with
  | none =>
    unfold decodeEntry at h
    rw [hn] at h
    cases h
  | some i =>
    obtain ⟨rfl, hq, hr⟩ := (decodeEntry_at hn q e).mp h
    exact ⟨number_of_entryOfNumber hn, hq, hr⟩

end Sys2Proof.Machine
end

section
/-! SUPPORT. The state after power-on reset (R81, R165). -/

namespace Sys2Proof.Machine

/-- With no cause enabled the CALL line is not asserted (R177). -/
theorem call_of_mask_zero {s : State} (h : s.status.mask = 0) : s.call = false := by
  simp [State.call, h]

/-! ## The power-on clock request (R81) -/

theorem Clock.initial_irc : (Clock.initial 0).requested = none ∧ (Clock.initial 0).switch = .idle ∧
    (Clock.initial 0).lastSwitch = .switched := ⟨rfl, rfl, rfl⟩

/-- A strap that names another source than IRC leaves a switch settling toward it. -/
theorem Clock.initial_settling {clksel : BitVec 2} (h : clksel ≠ 0) :
    (Clock.initial clksel).switch = .settling ∧ (Clock.initial clksel).lastSwitch = .none :=
  ⟨if_neg h, if_neg h⟩

/-- The causes after power-on reset: CLOCK_EVENT alone where the request for IRC has ended at once. -/
theorem Status.initial_causes (clksel : BitVec 2) (c : Cause) :
    (Status.initial clksel).causes.getLsbD c.bit = (decide (clksel = 0) && decide (c = .clockEvent)) := by
  unfold Status.initial
  dsimp only
  split
  · rename_i h
    rw [decide_eq_true h]
    cases c <;> rfl
  · rename_i h
    rw [decide_eq_false h]
    exact BitVec.getLsbD_zero

/-- Settles O3, block by block: the tables by what a table filled with one value holds, the clock and the causes by the
strap. -/
theorem powerOnResetGivesInitialValues : Obligations.PowerOnResetGivesInitialValues := by
  intro s
  refine ⟨{ State.powerOn s.pins with idle := s.idle, pending := s.pending }, rfl, rfl, rfl, rfl, rfl, rfl,
    Plan.initial_units, Plan.initial_meters, fun z => ?_, Plan.initial_keys, getElem_replicate_fin _, fun i b => ?_,
    getElem_replicate_fin _, getElem_replicate_fin _, rfl, rfl, getElem_replicate_fin _, getElem_replicate_fin _,
    fun u m => ?_, getElem_replicate_fin _, rfl, rfl, rfl, occInitial_get, rfl, rfl, rfl, call_of_mask_zero rfl, rfl,
    rfl, rfl, rfl, rfl, rfl, rfl, rfl, rfl, rfl, rfl, rfl, rfl, fun h => ?_, fun h => ?_, fun h => ?_, fun h => ?_⟩
  case refine_1 =>
    show Plan.initial.zones[z].enable = false ∧ (_ → Plan.initial.zones[z].medium = .heat)
    rw [Plan.initial_zones]
    exact ⟨rfl, fun _ => rfl⟩
  case refine_2 =>
    show (Plan.initial.dayProfiles[i])[b] = 0
    unfold Plan.initial
    rw [getElem_replicate_fin, getElem_replicate_fin]
  case refine_3 =>
    show ((Vector.replicate 256 (Both.mk Figures.initial Figures.initial))[u]).get m = _
    rw [getElem_replicate_fin]
    cases m <;> rfl
  case refine_4 =>
    have hclock : (State.powerOn s.pins).clock = Clock.initial 0 := congrArg Clock.initial h
    refine ⟨?_, ?_, ?_, fun c => ?_⟩
    · exact (congrArg Clock.requested hclock).trans Clock.initial_irc.1
    · exact (congrArg Clock.switch hclock).trans Clock.initial_irc.2.1
    · exact (congrArg Clock.lastSwitch hclock).trans Clock.initial_irc.2.2
    · exact (Status.initial_causes s.pins.clksel c).trans (by rw [decide_eq_true h, Bool.true_and])
  case refine_5 => exact congrArg (fun k => (Clock.initial k).requested) h
  case refine_6 =>
    rcases h with h | h
    · exact congrArg (fun k => (Clock.initial k).requested) h
    · exact congrArg (fun k => (Clock.initial k).requested) h
  case refine_7 =>
    obtain ⟨hswitch, hlast⟩ := Clock.initial_settling h
    refine ⟨hswitch, hlast, fun c => ?_⟩
    exact (Status.initial_causes s.pins.clksel c).trans (by rw [decide_eq_false h, Bool.false_and])

end Sys2Proof.Machine
end

section
/-! SUPPORT. The reading processor (R27 to R41): what taking a record does, outcome by outcome, in the words of
Sys2Proof/Safety.lean. -/

namespace Sys2Proof.Machine

/-! ## The words of the statements -/

theorem deltaWh_eq (e : MeterEntry) (l : MeterLive) (r : QueuedReading) :
    deltaWh e l (readingCounter r.words) = deltaOf e l r := rfl

/-- The skew check is symmetric in timestamp and capture time (R39). -/
theorem failsSkew_eq (r : QueuedReading) : failsSkew r = skewOf r := by
  unfold failsSkew skewOf
  rw [← Bool.decide_or]
  exact decide_eq_decide.mpr (by omega)

/-- The plausibility limit parts BACKWARD from IMPLAUSIBLE by the counter, as R29 lists them. -/
theorem judgeMeter_eq (s : State) (r : QueuedReading) (m : MeterId) :
    judgeMeter s.status.mode s.plan.meters[m] s.live[m] r = outcomeOf s r m := by
  have limit : aboveLimit s.plan.meters[m] s.live[m] r = decide (s.plan.meters[m].ratedMax *
      (elapsedOf s.live[m] r + 60) < deltaOf s.plan.meters[m] s.live[m] r * 3600) := rfl
  unfold judgeMeter outcomeOf
  simp only [limit, BitVec.lt_def]
  cases decide (s.plan.meters[m].ratedMax * (elapsedOf s.live[m] r + 60) <
    deltaOf s.plan.meters[m] s.live[m] r * 3600)
  · simp only [Bool.false_eq_true, and_false, if_false]
  · by_cases hback : (readingCounter r.words).toNat < s.live[m].lastCounter.toNat
    · simp only [hback, and_true, if_true]
    · simp only [hback, Nat.le_of_not_lt hback, and_true, if_true, if_false]

/-- The fresh test in two parts: the record applies, and the meter's slot waits (R40). -/
theorem freshTest_eq (o : ReadingOutcome) (s : State) (m : MeterId) :
    freshTest o s.plan.meters[m] s = (o.applies && makesFresh s m) := by
  have waits (x : Occupancy) : x.waits = (x == .opening || x == .closing) := by cases x <;> rfl
  unfold freshTest makesFresh
  rw [waits, Bool.and_assoc]

/-! ## The counts a record moves (R35, R39, R41) -/

theorem tally_frame (o : ReadingOutcome) (r : QueuedReading) (s : State) : tally o r s = { s with
    capture := { s.capture with
      rejects := (tally o r s).capture.rejects, tallies := (tally o r s).capture.tallies }
    status := { s.status with causes := (tally o r s).status.causes } } := by
  unfold tally
  cases o.rejects <;> rfl

/-- The interval tallies move in RUNNING alone. -/
theorem tally_loading (o : ReadingOutcome) (r : QueuedReading) {s : State} (h : s.status.mode = .loading) :
    (tally o r s).capture.tallies = s.capture.tallies := by
  have hrun : s.running = false := by rw [State.running, h]; rfl
  unfold tally
  rw [hrun]
  cases o.rejects <;> rfl

/-- A rejection does not apply. -/
theorem ReadingOutcome.applies_of_rejects {o : ReadingOutcome} : o.rejects = true → o.applies = false := by
  cases o <;> decide

theorem tally_of_rejects {o : ReadingOutcome} (h : o.rejects = true) (r : QueuedReading) (s : State) :
    tally o r s = { s with
      capture := { s.capture with
        rejects := satSucc s.capture.rejects
        tallies := if s.status.mode = .running
          then { s.capture.tallies with rejected := satSucc s.capture.tallies.rejected }
          else s.capture.tallies }
      status := { s.status with causes := s.status.causes ||| Cause.readingRejected.mask } } := by
  have ha := ReadingOutcome.applies_of_rejects h
  simp only [tally, raiseIf, h, ha, Bool.false_and, if_true, Bool.false_eq_true, if_false, s.running_iff]
  rfl

theorem tally_of_applies {o : ReadingOutcome} (h : o.applies = true) (r : QueuedReading) (s : State) :
    tally o r s = { s with
      capture := { s.capture with
        tallies := if s.status.mode = .running
          then { s.capture.tallies with
            taken := satSucc s.capture.tallies.taken
            skewed := if skewOf r then satSucc s.capture.tallies.skewed else s.capture.tallies.skewed }
          else s.capture.tallies } } := by
  have hr : o.rejects = false := by
    refine Bool.eq_false_iff.mpr fun hr => ?_
    rw [ReadingOutcome.applies_of_rejects hr] at h
    cases h
  simp only [tally, raiseIf, h, hr, Bool.true_and, if_true, Bool.false_eq_true, if_false, s.running_iff,
    failsSkew_eq]

theorem tally_duplicate (r : QueuedReading) (s : State) : tally .duplicate r s = s := by
  unfold tally raiseIf
  simp only [ReadingOutcome.applies, ReadingOutcome.rejects, Bool.false_and, Bool.false_eq_true, if_false, ite_self]

/-! ## What a record leaves in its meter and in the meter's slot -/

/-- The live fields that a record for meter `m` leaves in its entry. -/
def liveAfterReading (s : State) (r : QueuedReading) (m : MeterId) : MeterLive :=
  liveAfter (outcomeOf s r m) s.plan.meters[m] s.intervalSeconds ((outcomeOf s r m).applies && makesFresh s m) r
    s.live[m]

/-- The occupancy records after a record for meter `m`: one reading less is outstanding where it sets the fresh flag
from clear (R40, R103). -/
def occAfterReading (s : State) (r : QueuedReading) (m : MeterId) : Vector OccRecord 256 :=
  if ((outcomeOf s r m).applies && makesFresh s m && !s.live[m].fresh) = true then
    s.occ.set s.plan.meters[m].binding { s.occ[s.plan.meters[m].binding] with
      outstanding := s.occ[s.plan.meters[m].binding].outstanding - 1 }
  else s.occ

theorem takeRecord_meter {r : QueuedReading} {m : MeterId} (hm : m.val = readingMeter r.words) (s : State) :
    takeRecord r s = tally (outcomeOf s r m) r
      { s with live := s.live.set m (liveAfterReading s r m), occ := occAfterReading s r m } := by
  unfold takeRecord
  rw [← hm, finOf_val]
  dsimp only
  rw [judgeMeter_eq, freshTest_eq]
  unfold occAfterReading countFresh setOcc setLive
  split <;> rfl

/-- A number above 511 names no meter (R29). -/
theorem takeRecord_noMeter {r : QueuedReading} (h : 511 < readingMeter r.words) (s : State) :
    takeRecord r s = tally .unknownMeter r s := by
  unfold takeRecord
  rw [finOf_none h]

theorem liveAfter_lastOutcome (o : ReadingOutcome) (e : MeterEntry) (len : Nat) (b : Bool) (r : QueuedReading)
    (l : MeterLive) : (liveAfter o e len b r l).lastOutcome = o := rfl

theorem liveAfter_lastSlot (o : ReadingOutcome) (e : MeterEntry) (len : Nat) (b : Bool) (r : QueuedReading)
    (l : MeterLive) : (liveAfter o e len b r l).lastSlot = r.slot := rfl

/-- A record that does not apply leaves the live fields but for the last outcome, the drop slot and the suspect flag
(R35). -/
theorem liveAfter_turnedAway {o : ReadingOutcome} (h : o.applies = false) (e : MeterEntry) (len : Nat) (b : Bool)
    (r : QueuedReading) (l : MeterLive) : liveAfter o e len b r l =
      { l with lastOutcome := o, lastSlot := r.slot
               suspect := l.suspect || o == .backward || o == .implausible } := by
  have stands : l.suspect = (l.suspect || false || false) := by rw [Bool.or_false, Bool.or_false]
  have raised : true = (l.suspect || true || false) := by rw [Bool.or_true, Bool.true_or]
  have raised' : true = (l.suspect || false || true) := by rw [Bool.or_true]
  have turned {x y : Bool} (hxy : x = y) : ({ l with lastOutcome := o, lastSlot := r.slot, suspect := x } : MeterLive) =
      { l with lastOutcome := o, lastSlot := r.slot, suspect := y } := by rw [hxy]
  cases o with
  | baseline => cases h
  | taken => cases h
  | backward => exact turned raised
  | implausible => exact turned raised'
  | none => exact turned stands
  | duplicate => exact turned stands
  | unknownMeter => exact turned stands
  | doubtful => exact turned stands
  | outOfRange => exact turned stands

theorem liveAfter_duplicate (e : MeterEntry) (len : Nat) (b : Bool) (r : QueuedReading) (l : MeterLive) :
    liveAfter .duplicate e len b r l = { l with lastOutcome := .duplicate, lastSlot := r.slot } := rfl

/-- An applying record is checked for skew and may make its meter fresh (R39, R40). -/
theorem liveAfter_applies {o : ReadingOutcome} (h : o.applies = true) (e : MeterEntry) (len : Nat) (b : Bool)
    (r : QueuedReading) (l : MeterLive) :
    (liveAfter o e len b r l).skewed = skewOf r ∧ (liveAfter o e len b r l).fresh = (l.fresh || b) := by
  constructor
  · simp only [liveAfter, h, if_true, failsSkew_eq]
  · rw [liveAfter_fresh, h, Bool.true_and]

theorem liveAfter_baseline (e : MeterEntry) (len : Nat) (b : Bool) (r : QueuedReading) (l : MeterLive) :
    liveAfter .baseline e len b r l = { l with
      state := .live, lastCounter := readingCounter r.words, lastCapture := r.capture
      lastTag := readingTag r.words, rate := 0, debt := 0, missed := 0, attributed := 0, mark := true
      lastOutcome := .baseline, lastSlot := r.slot, skewed := skewOf r, fresh := l.fresh || b } := by
  rw [← failsSkew_eq]
  rfl

/-- The rate a TAKEN teaches, in the words of R38. -/
theorem learnedRate_eq (e : MeterEntry) (len : Nat) (l : MeterLive) (r : QueuedReading) :
    learnedRate e len l r = if elapsedOf l r = 0 then l.rate
      else min (deltaOf e l r * len / elapsedOf l r) (e.ratedMax * len / 3600) := rfl

/-- A TAKEN record: the open accumulator and the attributed total stand as `applyTaken` leaves them. -/
theorem liveAfter_taken (e : MeterEntry) (len : Nat) (b : Bool) (r : QueuedReading) (l : MeterLive) :
    liveAfter .taken e len b r l = { l with
      state := .live, lastCounter := readingCounter r.words, lastCapture := r.capture
      lastTag := readingTag r.words, missed := 0, debt := 0, suspect := false, mark := true
      lastOutcome := .taken, lastSlot := r.slot, skewed := skewOf r, fresh := l.fresh || b
      actual := (applyTaken e len r l).actual, estimated := (applyTaken e len r l).estimated
      correction := (applyTaken e len r l).correction, attributed := (applyTaken e len r l).attributed
      rate := if elapsedOf l r = 0 then l.rate
        else min (deltaOf e l r * len / elapsedOf l r) (e.ratedMax * len / 3600) } := by
  rw [← failsSkew_eq, ← learnedRate_eq]
  rfl

/-- With no debt an ACTUAL reading goes to the actual part (R36). -/
theorem applyTaken_actual {l : MeterLive} {r : QueuedReading} (hd : l.debt = 0) (hq : readingQuality r.words = 0)
    (e : MeterEntry) (len : Nat) : (applyTaken e len r l).actual = accAdd l.actual (deltaOf e l r) ∧
      (applyTaken e len r l).estimated = l.estimated ∧ (applyTaken e len r l).correction = l.correction := by
  simp only [applyTaken, hd, hq, deltaWh_eq, and_self, ne_eq, not_true, and_false, if_true, if_false, accAdd_zero]

/-- With no debt a METER_ESTIMATED reading goes to the estimated part (R36). -/
theorem applyTaken_estimated {l : MeterLive} {r : QueuedReading} (hd : l.debt = 0)
    (hq : readingQuality r.words ≠ 0) (e : MeterEntry) (len : Nat) :
    (applyTaken e len r l).estimated = accAdd l.estimated (deltaOf e l r) ∧
      (applyTaken e len r l).actual = l.actual ∧ (applyTaken e len r l).correction = l.correction := by
  simp only [applyTaken, hd, hq, deltaWh_eq, ne_eq, not_false_eq_true, and_self, and_false, if_true, if_false,
    accAdd_zero]

/-- With a debt the delta less the debt goes to the correction part (R36). -/
theorem applyTaken_correction {l : MeterLive} (hd : l.debt ≠ 0) (e : MeterEntry) (len : Nat) (r : QueuedReading) :
    (applyTaken e len r l).correction = accAdd l.correction ((deltaOf e l r : Int) - l.debt) ∧
      (applyTaken e len r l).actual = l.actual ∧ (applyTaken e len r l).estimated = l.estimated := by
  simp only [applyTaken, hd, deltaWh_eq, false_and, if_false, accAdd_zero, and_self]

theorem applyTaken_attributed (e : MeterEntry) (len : Nat) (r : QueuedReading) (l : MeterLive) :
    (applyTaken e len r l).attributed = accAdd l.attributed ((deltaOf e l r : Int) - l.debt) := rfl

theorem occAfterReading_turnedAway {s : State} {r : QueuedReading} {m : MeterId}
    (h : (outcomeOf s r m).applies = false) : occAfterReading s r m = s.occ := by
  unfold occAfterReading
  rw [h, Bool.false_and, Bool.false_and, if_neg Bool.false_ne_true]

theorem liveAfterReading_applies {s : State} {r : QueuedReading} {m : MeterId}
    (h : (outcomeOf s r m).applies = true) : liveAfterReading s r m =
      liveAfter (outcomeOf s r m) s.plan.meters[m] s.intervalSeconds (makesFresh s m) r s.live[m] := by
  rw [liveAfterReading, h, Bool.true_and]

theorem occAfterReading_applies {s : State} {r : QueuedReading} {m : MeterId}
    (h : (outcomeOf s r m).applies = true) : occAfterReading s r m =
      if makesFresh s m = true ∧ s.live[m].fresh = false then
        s.occ.set s.plan.meters[m].binding { s.occ[s.plan.meters[m].binding] with
          outstanding := s.occ[s.plan.meters[m].binding].outstanding - 1 }
      else s.occ := by
  unfold occAfterReading
  simp only [h, Bool.true_and, Bool.and_eq_true, Bool.not_eq_true']

/-! ## The command (R27) -/

theorem execReadingTake_suspended {s : State} (hc : s.close ≠ none) : exec .readingTake s = .next s := by
  have hclosing : s.closing = true := Option.isSome_iff_ne_none.mpr hc
  show execReadingTake s = .next s
  unfold execReadingTake
  rw [hclosing]
  split <;> rfl

theorem execReadingTake_head {s : State} {r : QueuedReading} {rest : List QueuedReading}
    (hq : s.capture.queue = r :: rest) (hc : s.close = none) :
    exec .readingTake s = .next (takeRecord r { s with capture := { s.capture with queue := rest } }) := by
  have hopen : s.closing = false := by rw [State.closing, hc]; rfl
  show execReadingTake s = _
  unfold execReadingTake
  rw [hq, hopen]
  rfl

/-- The head record concerns meter `m` of the table. -/
theorem execReadingTake_meter {s : State} {r : QueuedReading} {rest : List QueuedReading} {m : MeterId}
    (hq : s.capture.queue = r :: rest) (hc : s.close = none) (hm : m.val = readingMeter r.words) :
    exec .readingTake s = .next (tally (outcomeOf s r m) r { s with
      capture := { s.capture with queue := rest }
      live := s.live.set m (liveAfterReading s r m), occ := occAfterReading s r m }) := by
  rw [execReadingTake_head hq hc, takeRecord_meter hm]
  rfl

/-- The head record's number is above 511. -/
theorem execReadingTake_noMeter {s : State} {r : QueuedReading} {rest : List QueuedReading}
    (hq : s.capture.queue = r :: rest) (hc : s.close = none) (h : 511 < readingMeter r.words) :
    exec .readingTake s =
      .next (tally .unknownMeter r { s with capture := { s.capture with queue := rest } }) := by
  rw [execReadingTake_head hq hc, takeRecord_noMeter h]

/-! ## The statements -/

/-- Settles O33, by whether the record's number names a meter of the table. -/
theorem readingTakeGivesOneOutcome : Obligations.ReadingTakeGivesOneOutcome := by
  intro s r rest hq
  refine ⟨execReadingTake_suspended, fun hc => ?_⟩
  rcases Nat.lt_or_ge 511 (readingMeter r.words) with hbig | hsmall
  · refine ⟨_, execReadingTake_noMeter hq hc hbig, tally_frame _ _ _, fun hl => tally_loading _ r hl,
      fun m => ⟨fun hm => ?_, fun _ => ?_⟩⟩
    · exact absurd (hm ▸ hbig) (Nat.not_lt.mpr (Nat.le_of_lt_succ m.isLt))
    · rw [tally_frame]
  · obtain ⟨k, hk⟩ : ∃ k : MeterId, k.val = readingMeter r.words := ⟨⟨_, Nat.lt_succ_of_le hsmall⟩, rfl⟩
    refine ⟨_, execReadingTake_meter hq hc hk, ?_, fun hl => tally_loading _ r hl, fun m => ?_⟩
    · rw [tally_frame]
    · rw [tally_frame]
      dsimp only
      rw [getElem_set_fin, ← hk]
      refine ⟨fun hm => ?_, fun hm => ?_⟩
      · obtain rfl : k = m := Fin.ext hm.symm
        rw [if_pos rfl]
        exact ⟨liveAfter_lastOutcome .., liveAfter_lastSlot ..⟩
      · rw [if_neg fun h => hm (congrArg Fin.val h).symm]

/-- Settles O34: a rejection and a DUPLICATE do not apply, so that the live fields stand but for the last outcome, the
drop slot and the suspect flag. -/
theorem readingTurnedAway : Obligations.ReadingTurnedAway := by
  intro s r rest hq hc
  refine ⟨fun m o hm ho => ⟨fun hrejection => ?_, fun hduplicate => ?_⟩, fun hbig => ?_⟩
  · have hr : o.rejects = true := by rcases hrejection with h | h | h | h | h <;> rw [h] <;> rfl
    have ha := ReadingOutcome.applies_of_rejects hr
    subst ho
    rw [execReadingTake_meter hq hc hm, tally_of_rejects hr, occAfterReading_turnedAway ha, liveAfterReading,
      liveAfter_turnedAway ha]
  · subst hduplicate
    have ha : (outcomeOf s r m).applies = false := by rw [← ho]; rfl
    rw [execReadingTake_meter hq hc hm, occAfterReading_turnedAway ha, liveAfterReading, ← ho, liveAfter_duplicate,
      tally_duplicate]
  · rw [execReadingTake_noMeter hq hc hbig, tally_of_rejects rfl]

/-- Settles O35: the two applying outcomes are tallied alike, and a BASELINE is what R31 sets. -/
theorem applyingRecordsAreTalliedAndMakeFresh : Obligations.ApplyingRecordsAreTalliedAndMakeFresh := by
  intro s r rest m hq hc hm ho
  have ha : (outcomeOf s r m).applies = true := by rcases ho with h | h <;> rw [h] <;> rfl
  obtain ⟨hskew, hfresh⟩ :=
    liveAfter_applies ha s.plan.meters[m] s.intervalSeconds (makesFresh s m) r s.live[m]
  rw [execReadingTake_meter hq hc hm, tally_of_applies ha, occAfterReading_applies ha]
  refine ⟨_, rfl, rfl, ?_⟩
  simp only [getElem_set_fin, if_true, liveAfterReading_applies ha, true_and]
  refine ⟨hskew, hfresh, fun j hj => if_neg hj.symm, fun hb => ?_⟩
  rw [hb, liveAfter_baseline]

/-- Settles O36, by the part of the open accumulator that R36 names: the debt decides, and without one the quality
code. -/
theorem takenReadingIsApplied : Obligations.TakenReadingIsApplied := by
  rintro s r rest m e l d hq hc hm ho rfl rfl rfl
  rw [execReadingTake_meter hq hc hm]
  refine ⟨_, _, rfl, rfl, ?_⟩
  have hlive := liveAfterReading_applies (ho ▸ rfl : (outcomeOf s r m).applies = true)
  rw [ho, liveAfter_taken] at hlive
  rw [tally_frame]
  simp only [getElem_set_fin, if_true, hlive]
  refine ⟨rfl, fun hd hq => ?_, fun hd hq => ?_, fun hd => ?_, fun hfits => ?_⟩
  · obtain ⟨hactual, hrest⟩ := applyTaken_actual hd hq s.plan.meters[m] s.intervalSeconds
    exact ⟨hactual ▸ accAdd_added _ _, hrest⟩
  · obtain ⟨hestimated, hrest⟩ := applyTaken_estimated hd hq s.plan.meters[m] s.intervalSeconds
    exact ⟨hestimated ▸ accAdd_added _ _, hrest⟩
  · obtain ⟨hcorrection, hrest⟩ := applyTaken_correction hd s.plan.meters[m] s.intervalSeconds r
    exact ⟨hcorrection ▸ accAdd_added _ _, hrest⟩
  · rw [applyTaken_attributed, accAdd_added _ _ hfits]
    omega

end Sys2Proof.Machine
end

section
/-! SUPPORT. The capture of a drop write (R22 to R25) and the invariants at power-on reset. -/

namespace Sys2Proof.Machine

/-! ## Capture (R24) -/

/-- What the arbiter made of a link stands wherever the link, the record and the pins do. -/
theorem Arbitrated.congr {t t' : State} {l : Link} (h : Arbitrated t l) (hl : t'.link = t.link)
    (ho : t'.out = t.out) (hp : t'.pins = t.pins) : Arbitrated t' l := by
  obtain ⟨ht, _, _⟩ := h
  refine arbitrated_of (u := { t with link := l }) ?_ ho hp
  rw [hl]
  exact congrArg State.link ht

theorem raiseIf_postedTo {t : WriteTxn} {l : Link} {r : State} (h : PostedTo t l r) (b : Bool) (c : Cause) :
    PostedTo t l (raiseIf b c r) := by
  obtain ⟨st, hst⟩ := raiseIf_frame b c r
  rw [hst]
  exact Arbitrated.congr h rfl rfl rfl

/-- A drop write is judged by the drop ring's own form (R22, R150). -/
theorem execDropWrite_drop {s : State} {t : WriteTxn} {off : Nat} (hfree : UpstreamFree s)
    (hat : At s t.addr off) (hlow : 0x10000 ≤ off) (hhigh : off < 0x10400) (haligned : t.aligned = true) :
    exec (.dropWrite t) s = .next (dropRingWrite t off s) := by
  show Host.Outcome.next (takeUpstream (decideWrite t) s) = _
  rw [takeUpstream_free hfree, decideWrite, if_pos haligned, classify_drop hat hlow hhigh]

theorem dropRingWrite_refused {t : WriteTxn} (h : ¬ (t.len = .w4 ∧ t.enables = [15, 15, 15, 15])) (off : Nat)
    (s : State) : dropRingWrite t off s = respond .refuse s := if_neg fun hf => h ((quadForm_iff t).mp hf)

theorem dropRingWrite_formed {t : WriteTxn} (h : t.len = .w4 ∧ t.enables = [15, 15, 15, 15]) (off : Nat)
    (s : State) : dropRingWrite t off s = captureWrite t off s := if_pos ((quadForm_iff t).mpr h)

theorem bufferRoom_iff (s : State) : s.bufferRoom = true ↔ s.link.posted.length < 8 :=
  decide_eq_true_iff

/-- The reading queue is full (R24). -/
theorem captureWrite_queueFull {s : State} (h : 64 ≤ s.capture.queue.length) (t : WriteTxn) (off : Nat) :
    captureWrite t off s = respond .retry (raise .queueFull s) := if_pos h

/-- The posted-write buffer alone is full (R24). -/
theorem captureWrite_bufferFull {s : State} (hq : s.capture.queue.length < 64) (hp : 8 ≤ s.link.posted.length)
    (t : WriteTxn) (off : Nat) : captureWrite t off s = respond .retry s := by
  have hfull : s.bufferRoom = false := by
    rw [← Bool.not_eq_true, bufferRoom_iff]
    omega
  exact (if_neg (Nat.not_le.mpr hq)).trans (if_pos hfull)

/-- The state with a record appended to the reading queue. -/
def State.captured (s : State) (r : QueuedReading) : State :=
  { s with capture := { s.capture with queue := s.capture.queue ++ [r] } }

/-- Both queues have room (R24). -/
theorem captureWrite_room {s : State} (hq : s.capture.queue.length < 64) (hp : s.link.posted.length < 8)
    (t : WriteTxn) (off : Nat) : captureWrite t off s =
      raiseIf (s.capture.queue.length == 31) .queueHalf (postWrite t (s.captured
        { words := quadOf t.data, capture := s.clock.time, slot := BitVec.ofNat 6 ((off - 0x10000) / 16) })) := by
  have hroom : ¬ s.bufferRoom = false := by rw [Bool.not_eq_false, bufferRoom_iff]; exact hp
  exact (if_neg (Nat.not_le.mpr hq)).trans (if_neg hroom)

/-- A write that finds room changes the link and the answer alone. -/
theorem postWrite_room {s : State} (h : s.bufferRoom = true) (t : WriteTxn) :
    postWrite t s = { s with link := (postWrite t s).link, answer := some (.accept []) } := by
  obtain ⟨l, hl⟩ := appendPosted_frame t s
  rw [postWrite, if_pos h, hl]
  rfl

/-- Settles O32, by the form of the write and then by which of the two queues has room. -/
theorem dropWriteIsCapturedAndPosted : Obligations.DropWriteIsCapturedAndPosted := by
  intro s t off hfree hat hlow hhigh haligned
  rw [execDropWrite_drop hfree hat hlow hhigh haligned]
  refine ⟨fun a b c d hlen henables hdata => ?_, fun h => by rw [dropRingWrite_refused h]; rfl⟩
  rw [dropRingWrite_formed ⟨hlen, henables⟩]
  refine ⟨fun hq hp => ⟨_, rfl, ?_⟩, fun hq => by rw [captureWrite_queueFull hq]; rfl,
    fun hq hp => by rw [captureWrite_bufferFull hq hp]; rfl⟩
  rw [captureWrite_room hq hp, hdata]
  generalize hr : ({ words := _, capture := s.clock.time, slot := _ } : QueuedReading) = r
  have hroom : (s.captured r).bufferRoom = true := (bufferRoom_iff s).mpr hp
  refine ⟨?_, raiseIf_postedTo (postWrite_postedTo t hroom) _ _, fun x => ?_⟩
  · rw [postWrite_room hroom]
    subst hr
    unfold raiseIf
    split <;> rfl
  · rw [causeSet_raiseIf, Bool.and_comm, postWrite_room hroom]
    rfl

/-! ## Power-on reset -/

theorem capacityInv_reset : CapacityInv State.reset :=
  ⟨Nat.zero_le _, Nat.zero_le _, Nat.zero_le _, Nat.zero_le _⟩

/-- The ring is empty, both channels are IDLE and no record is being written (R130, R133). -/
theorem writeOutInv_reset : WriteOutInv State.reset where
  pointers := rfl
  bound := Nat.zero_le _
  oneActive := by decide
  activeRoom c := by cases c <;> decide
  waitingFull c := by cases c <;> decide
  pendingBehind c := by cases c <;> decide
  busyHasWork c h := absurd (by cases c <;> rfl) h
  recordOfActive c h := by cases c <;> cases h
  noRecordFree _ := rfl
  lastIsActive c h := by cases c <;> cases h

/-- The port is free, the buffer empty and nobody waits (R148, R158). -/
theorem linkInv_reset : LinkInv State.reset where
  order := List.Perm.refl _
  granted _ r := by cases r <;> rfl
  drainsHead _ h := by cases h
  drainWaits h := by cases h
  draining h := absurd rfl h
  readsForwarded _ h := by cases h
  readWaits h := by cases h
  firstOfRecord _ h := by cases h
  secondOfRecord _ h := by cases h
  writeOutWaits h := by cases h

/-- Every account holds the initial figures (R45). -/
theorem accountsInv_reset : AccountsInv State.reset := by
  have figures (u : UnitId) (m : Medium) : (State.reset.accounts[u]).get m = Figures.initial := by
    show ((Vector.replicate 256 (Both.mk Figures.initial Figures.initial))[u]).get m = _
    rw [getElem_replicate_fin]
    cases m <;> rfl
  refine ⟨fun u m => ?_, fun _ u m => ?_⟩
  · rw [figures]
    exact Nat.zero_le 999
  · rw [figures]
    rfl

/-- The mode is LOADING, where no plan is in force. -/
theorem planInv_reset : PlanInv State.reset := fun h => by cases h

/-- Settles O4, invariant by invariant. -/
theorem invariantsHoldAtReset : Obligations.InvariantsHoldAtReset :=
  ⟨capacityInv_reset, writeOutInv_reset, linkInv_reset, powerOn_inv _ 0 [], accountsInv_reset, planInv_reset⟩

end Sys2Proof.Machine
end

section
/-! SUPPORT. No queue passes its capacity at any step (R24, R116, R134, R151). Most events leave the four queues as they
are or shorten one; a queue grows in one operation each, and that operation tests for room. -/

namespace Sys2Proof.Machine

/-! ## The queues -/

/-- The four queues: readings, changes, posted writes, summaries held. -/
def State.queues (s : State) : List QueuedReading × List Change × List WriteTxn × List Summary :=
  (s.capture.queue, s.changes, s.link.posted, s.out.holding)

/-- The capacities depend on the four queues alone. -/
theorem CapacityInv.of_same {s t : State} (h : CapacityInv s) (hread : t.capture.queue = s.capture.queue)
    (hchange : t.changes = s.changes) (hpost : t.link.posted = s.link.posted)
    (hhold : t.out.holding = s.out.holding) : CapacityInv t := by
  unfold CapacityInv
  rw [hread, hchange, hpost, hhold]
  exact h

theorem CapacityInv.of_queues {s t : State} (h : CapacityInv s) (hq : t.queues = s.queues) : CapacityInv t := by
  simp only [State.queues, Prod.mk.injEq] at hq
  obtain ⟨hread, hchange, hpost, hhold⟩ := hq
  exact h.of_same hread hchange hpost hhold

/-- An empty queue passes no capacity. -/
theorem CapacityInv.of_empty {t : State} (hq : t.queues = ([], [], t.link.posted, []))
    (hp : t.link.posted.length ≤ 8) : CapacityInv t := by
  simp only [State.queues, Prod.mk.injEq, true_and] at hq
  obtain ⟨hread, hchange, hhold⟩ := hq
  unfold CapacityInv
  rw [hread, hchange, hhold]
  exact ⟨Nat.zero_le _, Nat.zero_le _, hp, Nat.zero_le _⟩

/-! ## Events that leave the queues as they are -/

@[simp] theorem raise_queues (c : Cause) (s : State) : (raise c s).queues = s.queues := rfl

@[simp] theorem raiseIf_queues (b : Bool) (c : Cause) (s : State) : (raiseIf b c s).queues = s.queues := by
  cases b <;> rfl

/-! ### The port -/

@[simp] theorem grant_queues (s : State) : (grant s).queues = s.queues := by
  rcases grant_cases s with ⟨h, _⟩ | ⟨r, hport, hfind⟩
  · rw [h]
  · rw [grant_given hport hfind]
    cases r <;> rfl

@[simp] theorem requestDrain_queues (s : State) : (requestDrain s).queues = s.queues := by
  rw [requestDrain_eq]
  rfl

theorem grant_freePort_queues (s : State) : (grant (freePort s)).queues = s.queues := grant_queues _

theorem endRead_queues (r : Response) (s : State) : (endRead r s).queues = s.queues := grant_queues _

theorem forwardRead_queues (t : ReadTxn) (s : State) : (forwardRead t s).queues = s.queues := by
  unfold forwardRead
  split
  · rfl
  · exact grant_queues _

theorem decideRead_queues (t : ReadTxn) (s : State) : (decideRead t s).queues = s.queues := by
  unfold decideRead
  split
  · split
    · rfl
    · rfl
    · unfold ringRead
      split
      · rfl
      · exact forwardRead_queues t s
    · exact forwardRead_queues t s
    · exact forwardRead_queues t s
    · exact forwardRead_queues t s
  · rfl

/-! ### The channels -/

@[simp] theorem setChanState_queues (c : Channel) (st : ChannelState) (s : State) :
    (setChanState c st s).queues = s.queues := by cases c <;> rfl

@[simp] theorem enterWaiting_queues (c : Channel) (s : State) : (enterWaiting c s).queues = s.queues := by
  unfold enterWaiting
  rw [raise_queues, setChanState_queues]

@[simp] theorem activate_queues (c : Channel) (s : State) : (activate c s).queues = s.queues := by cases c <;> rfl

@[simp] theorem pendingToWaiting_queues (c : Channel) (s : State) :
    (pendingToWaiting c s).queues = s.queues := by
  unfold pendingToWaiting
  split <;> simp only [enterWaiting_queues]

@[simp] theorem waitingToPending_queues (c : Channel) (s : State) :
    (waitingToPending c s).queues = s.queues := by
  unfold waitingToPending
  split <;> simp only [setChanState_queues]

@[simp] theorem choose_queues (s : State) : (choose s).queues = s.queues := by
  unfold choose
  split
  · rfl
  · split
    · split
      · split <;> exact activate_queues _ s
      · split
        · exact activate_queues .p s
        · rfl
    · simp only [pendingToWaiting_queues]

@[simp] theorem handWork_queues (c : Channel) (s : State) : (handWork c s).queues = s.queues := by
  unfold handWork
  split
  · split <;> simp only [choose_queues, setChanState_queues, enterWaiting_queues]
  · rfl

@[simp] theorem afterRecord_queues (c : Channel) (s : State) : (afterRecord c s).queues = s.queues := by
  unfold afterRecord
  split
  · split <;> simp only [setChanState_queues, enterWaiting_queues]
  · exact setChanState_queues c .idle s

theorem exportRecords_queues (n : Nat) (s : State) : (exportRecords n s).queues = s.queues := by
  unfold exportRecords
  dsimp only
  split
  · rfl
  · simp only [choose_queues, waitingToPending_queues]
    rfl

theorem abandonRecord_queues (c : Channel) (o : ChannelOutcome) (s : State) :
    (abandonRecord c o s).queues = s.queues := by
  obtain ⟨sn, h⟩ := keepItem_frame s
  rw [abandonRecord, h]
  cases c <;> rfl

@[simp] theorem failRecord_queues (s : State) : (failRecord s).queues = s.queues := by
  unfold failRecord
  split
  · rw [choose_queues, raise_queues, abandonRecord_queues]
  · rfl

theorem cancelActive_queues (s : State) : (cancelActive s).queues = s.queues := by
  unfold cancelActive
  split
  · exact abandonRecord_queues _ _ _
  · rfl

theorem resetBus_queues (s : State) : (resetBus s).queues = s.queues := by
  have dropped : (dropRead s).queues = s.queues := by
    unfold dropRead
    split <;> rfl
  have cancelled : (cancelAndChoose (dropRead s)).queues = (dropRead s).queues := by
    unfold cancelAndChoose
    split
    · rw [choose_queues, cancelActive_queues]
    · rfl
  exact cancelled.trans dropped

/-! ### Units and plan entries -/

theorem unitCmdWrite_queues (code : BitVec 8) (u : UnitId) (s : State) :
    (unitCmdWrite code u s).queues = s.queues := by
  obtain ⟨oc, l, st, h⟩ := unitCmdWrite_frame code u s
  rw [h]
  rfl

theorem applyInLoading_queues (e : PlanEntry) (s : State) : (applyInLoading e s).queues = s.queues := by
  obtain ⟨p, l, h⟩ := applyEntry_frame e s
  unfold applyInLoading
  rw [h]
  dsimp only
  split <;> rfl

/-! ### The clock, but for its boundaries -/

@[simp] theorem completeSwitch_queues (s : State) : (completeSwitch s).queues = s.queues := by
  unfold completeSwitch
  split <;> rfl

@[simp] theorem timeoutSwitch_queues (s : State) : (timeoutSwitch s).queues = s.queues := by
  unfold timeoutSwitch
  split <;> rfl

@[simp] theorem settleCrystal_queues (s : State) : (settleCrystal s).queues = s.queues := by
  unfold settleCrystal
  split <;> rfl

@[simp] theorem failSource_queues (src : Source) (s : State) : (failSource src s).queues = s.queues := by
  unfold failSource
  split
  · split <;> rfl
  · rfl

@[simp] theorem limitPeriod_queues (s : State) : (limitPeriod s).queues = s.queues := by
  unfold limitPeriod
  dsimp only
  split
  · split
    · exact timeoutSwitch_queues _
    · rfl
  · rfl

@[simp] theorem monitorPeriod_queues (src : Source) (limit : Nat) (s : State) :
    (monitorPeriod src limit s).queues = s.queues := by
  unfold monitorPeriod
  split
  · rfl
  · split
    · split
      · exact failSource_queues src s
      · rfl
    · rfl

theorem switchEffect_queues (a : BitVec 8) (s : State) : (switchEffect a s).queues = s.queues := by
  unfold switchEffect
  split
  · rfl
  · split <;> rfl

/-- Stage 1 of a close returns the tallies to 0 and leaves the reading queue. -/
@[simp] theorem beginClose_queues (b : Time) (s : State) : (beginClose b s).queues = s.queues :=
  raiseIf_queues _ .meterStale _

/-! ## The posted-write buffer (R151) -/

/-- A write is appended where the buffer holds fewer than 8. -/
theorem postWrite_capacity (t : WriteTxn) {s : State} (h : CapacityInv s) : CapacityInv (postWrite t s) := by
  obtain ⟨hread, hchange, hpost, hhold⟩ := h
  unfold postWrite
  split
  · rename_i hroom
    have appended : CapacityInv { s with
        link := { s.link with posted := s.link.posted ++ [t], reqDrain := s.link.reqDrain || !s.link.draining } } := by
      refine ⟨hread, hchange, ?_, hhold⟩
      rw [List.length_append]
      exact (bufferRoom_iff s).mp hroom
    refine appended.of_queues ?_
    rw [appendPosted_eq]
    exact grant_queues _
  · exact ⟨hread, hchange, hpost, hhold⟩

/-- The end of a drain takes the head entry out of the buffer (R152). -/
theorem endDrain_capacity {s : State} (h : CapacityInv s) : CapacityInv (endDrain s) := by
  obtain ⟨hread, hchange, hpost, hhold⟩ := h
  have shortened : CapacityInv (freePort { s with link := { s.link with posted := s.link.posted.tail } }) :=
    ⟨hread, hchange, Nat.le_trans (List.tail_sublist _).length_le hpost, hhold⟩
  exact shortened.of_queues (by rw [endDrain, grant_queues, requestDrain_queues])

theorem discardDrain_capacity {s : State} (h : CapacityInv s) : CapacityInv (discardDrain s) :=
  endDrain_capacity (h.of_queues rfl)

theorem timeoutAccess_capacity {s : State} (h : CapacityInv s) : CapacityInv (timeoutAccess s) := by
  unfold timeoutAccess
  split
  · exact discardDrain_capacity h
  · exact h.of_queues (endRead_queues .refuse s)
  · exact h.of_queues ((grant_freePort_queues _).trans (failRecord_queues s))
  · exact h.of_queues ((grant_freePort_queues _).trans (failRecord_queues s))
  · exact h.of_queues (grant_freePort_queues s)
  · exact h

theorem linkPeriod_capacity {s : State} (h : CapacityInv s) : CapacityInv (linkPeriod s) := by
  unfold linkPeriod
  split
  · exact h
  · split
    · exact h
    · exact timeoutAccess_capacity h

/-! ## The holding queue (R134) -/

/-- The summary dropped from a full queue is there: its index is 0 or 1. -/
theorem length_dropped {l : List Summary} {b : Prop} [Decidable b] (h : l.length = 4) :
    (l.eraseIdx (if b then 1 else 0)).length < 4 := by
  have hindex : (if b then 1 else 0) < l.length := by split <;> omega
  rw [List.length_eraseIdx_of_lt hindex, h]
  decide

/-- A full queue drops a summary before it takes one. -/
theorem offerSummary_capacity (x : Summary) {s : State} (h : CapacityInv s) : CapacityInv (offerSummary x s) := by
  obtain ⟨hread, hchange, hpost, hhold⟩ := h
  have taken (l : List Summary) (n : BitVec 16) (st : Status) (hl : l.length < 4) : CapacityInv (handWork .i
      { s with status := st, out := { s.out with holding := l ++ [x], lost := n } }) := by
    have appended : CapacityInv { s with status := st, out := { s.out with holding := l ++ [x], lost := n } } := by
      refine ⟨hread, hchange, hpost, ?_⟩
      rw [List.length_append]
      exact hl
    exact appended.of_queues (handWork_queues .i _)
  unfold offerSummary
  split
  · rename_i hroom
    exact taken _ _ _ hroom
  · rename_i hfull
    exact taken _ _ _ (length_dropped (Nat.le_antisymm hhold (Nat.le_of_not_lt hfull)))

/-- A completed summary leaves the queue (R139). -/
theorem releaseItem_capacity (it : Item) {s : State} (h : CapacityInv s) : CapacityInv (releaseItem it s) := by
  cases it with
  | summary =>
    obtain ⟨hread, hchange, hpost, hhold⟩ := h
    exact ⟨hread, hchange, hpost, Nat.le_trans (List.tail_sublist _).length_le hhold⟩
  | trailer => exact h
  | statement u =>
    unfold releaseItem
    dsimp only
    split
    · split <;> exact h
    · exact h

theorem completeRecord_capacity (c : Channel) {s : State} (h : CapacityInv s) : CapacityInv (completeRecord c s) := by
  have counted : CapacityInv { s with out := { s.out.setChan c { s.out.chan c with outcome := .complete } with
      w := s.out.w + 1, u := s.out.u + 1, seq := s.out.seq + 1, record := none } } :=
    h.of_queues (by cases c <;> rfl)
  unfold completeRecord
  dsimp only
  split
  · exact (releaseItem_capacity _ counted).of_queues (by rw [choose_queues, afterRecord_queues])
  · exact counted.of_queues (by rw [choose_queues, afterRecord_queues])

/-! ## The close -/

theorem stageOccupancy_capacity (c : Close) {s : State} (h : CapacityInv s) : CapacityInv (stageOccupancy c s) := by
  refine h.of_queues ?_
  unfold stageOccupancy
  dsimp only
  split
  · rw [handWork_queues, raiseIf_queues, raiseIf_queues]
    simp only [State.queues]
  · rw [raiseIf_queues, raiseIf_queues]
    simp only [State.queues]

theorem stagePeriod_capacity (c : Close) {s : State} (h : CapacityInv s) : CapacityInv (stagePeriod c s) := by
  refine h.of_queues ?_
  unfold stagePeriod
  split
  · dsimp only
    rw [handWork_queues]
    simp only [State.queues]
  · rfl

/-- Stage 9 empties the change queue (R118). -/
theorem stageChanges_capacity (c : Close) {s : State} (h : CapacityInv s) : CapacityInv (stageChanges c s) := by
  obtain ⟨hread, _, hpost, hhold⟩ := h
  obtain ⟨p, l, oc, r, rj, st, hf⟩ := stageChanges_frame c s
  rw [hf]
  exact ⟨hread, Nat.zero_le _, hpost, hhold⟩

theorem stageEffect_capacity (st : Stage) (c : Close) {s : State} (h : CapacityInv s) :
    CapacityInv (stageEffect st c s) := by
  cases st with
  | direct => unfold stageEffect stageDirect; exact h.of_same rfl rfl rfl rfl
  | zones => unfold stageEffect stageZones; exact h.of_same rfl rfl rfl rfl
  | residual => unfold stageEffect stageResidual; exact h.of_same rfl rfl rfl rfl
  | price => unfold stageEffect stagePrice; exact h.of_same rfl rfl rfl rfl
  | occupancy => unfold stageEffect; exact stageOccupancy_capacity c h
  | period => exact stagePeriod_capacity c h
  | summary => exact offerSummary_capacity (summaryOf c s) (h.of_same rfl rfl rfl rfl)
  | changes => exact stageChanges_capacity c h
  | finish => exact h

theorem runStage_capacity (st : Stage) {s : State} (h : CapacityInv s) : CapacityInv (runStage st s) := by
  unfold runStage
  split
  · split
    · exact stageEffect_capacity st _ h
    · exact h
  · exact h

/-- The stages still due, in any order, keep the capacities. -/
theorem foldl_runStage_capacity (l : List Stage) :
    ∀ {s : State}, CapacityInv s → CapacityInv (l.foldl (fun t st => runStage st t) s) := by
  induction l with
  | nil => exact id
  | cons st l ih => exact fun h => ih (runStage_capacity st h)

theorem finishClose_capacity {s : State} (h : CapacityInv s) : CapacityInv (finishClose s) :=
  foldl_runStage_capacity stageOrder h

/-! ## The billing clock -/

theorem boundaryEvent_capacity {s : State} (h : CapacityInv s) : CapacityInv (boundaryEvent s) := by
  have hbegun : CapacityInv (beginClose s.clock.time (finishClose s)) :=
    (finishClose_capacity h).of_queues (beginClose_queues _ _)
  unfold boundaryEvent
  exact hbegun.of_same rfl rfl rfl rfl

theorem tickSecond_capacity {s : State} (h : CapacityInv s) : CapacityInv (tickSecond s) := by
  unfold tickSecond
  extract_lets _ ticked reached
  have hreached : CapacityInv reached := by
    unfold reached
    split
    · split
      · exact boundaryEvent_capacity (s := ticked) (h.of_queues rfl)
      · exact h
    · exact h
  split
  · exact hreached.of_queues (completeSwitch_queues reached)
  · exact hreached

theorem secondEdge_capacity {s : State} (h : CapacityInv s) : CapacityInv (secondEdge s) :=
  tickSecond_capacity (h.of_queues rfl)

theorem pulse_capacity {s : State} (h : CapacityInv s) : CapacityInv (pulse s) := by
  unfold pulse
  extract_lets restarted advanced
  have hadvanced : CapacityInv advanced := by
    unfold advanced
    split <;> exact h
  split
  · exact tickSecond_capacity (hadvanced.of_queues rfl)
  · exact hadvanced

theorem sourcePeriod_capacity {s : State} (h : CapacityInv s) : CapacityInv (sourcePeriod s) := by
  unfold sourcePeriod
  split
  · exact h
  · exact secondEdge_capacity h

theorem ircPeriod_capacity {s : State} (h : CapacityInv s) : CapacityInv (ircPeriod s) := by
  unfold ircPeriod
  extract_lets moved
  have hmoved : CapacityInv moved := by
    unfold moved
    split
    · exact sourcePeriod_capacity h
    · exact h
    · exact h
  exact hmoved.of_queues (by rw [monitorPeriod_queues, monitorPeriod_queues, limitPeriod_queues])

theorem crystalPeriod_capacity {s : State} (h : CapacityInv s) : CapacityInv (crystalPeriod s) := by
  unfold crystalPeriod
  dsimp only
  split
  · exact sourcePeriod_capacity h
  · split
    · split
      · split
        · exact h
        · exact h.of_queues (settleCrystal_queues _)
      · exact h
    · exact h

theorem idleStep_capacity {s : State} (h : CapacityInv s) : CapacityInv (idleStep s) := by
  have hcounted : CapacityInv { s with idle := s.idle + 1 } := h
  unfold idleStep oscillatorPeriod
  split
  · exact ircPeriod_capacity hcounted
  · exact crystalPeriod_capacity hcounted
  · exact linkPeriod_capacity hcounted

/-! ## The status block -/

/-- CLEAR empties three queues and leaves the buffer (R144, R174). -/
theorem clearEffect_capacity {s : State} (h : CapacityInv s) : CapacityInv (clearEffect s) := by
  obtain ⟨_, _, hpost, _⟩ := h.of_queues (cancelActive_queues s)
  exact .of_empty rfl hpost

theorem commandWrite_capacity (code argument : BitVec 8) (armed : Bool) {s : State} (h : CapacityInv s) :
    CapacityInv (commandWrite code argument armed s) := by
  unfold commandWrite
  split
  · unfold commandStart
    dsimp only
    split <;> exact h
  · exact h
  · unfold commandClear
    split
    · exact clearEffect_capacity h
    · exact h
  · unfold commandPeriodClose
    split <;> exact h
  · unfold commandPeriodResend
    split
    · exact h.of_queues (handWork_queues .p s)
    · exact h
  · unfold commandClockSwitch
    split
    · exact h.of_queues (switchEffect_queues argument s)
    · exact h
  · exact h

theorem statusWrite_capacity (i : Nat) (v : Word) {s : State} (h : CapacityInv s) :
    CapacityInv (statusWrite i v s) := by
  have hd : CapacityInv (disarm s) := h
  unfold statusWrite
  dsimp only
  split
  · exact hd
  · exact hd
  · exact commandWrite_capacity _ _ _ hd
  · exact hd.of_queues (unitCmdWrite_queues _ _ _)
  · unfold writeTime
    split
    · exact hd
    · exact hd.of_same rfl rfl rfl rfl
  · unfold writeTimeAdjust
    split <;> exact hd
  · unfold writeExport
    split
    · exact hd.of_queues (exportRecords_queues _ _)
    · exact hd
  · exact hd

/-! ## The reading queue (R24) -/

theorem captureWrite_capacity (t : WriteTxn) (off : Nat) {s : State} (h : CapacityInv s) :
    CapacityInv (captureWrite t off s) := by
  rcases Nat.lt_or_ge s.capture.queue.length 64 with hq | hq
  · rcases Nat.lt_or_ge s.link.posted.length 8 with hp | hp
    · have captured (r : QueuedReading) : CapacityInv (s.captured r) := by
        obtain ⟨_, hchange, hpost, hhold⟩ := h
        refine ⟨?_, hchange, hpost, hhold⟩
        rw [State.captured, List.length_append]
        exact hq
      rw [captureWrite_room hq hp]
      exact (postWrite_capacity t (captured _)).of_queues (raiseIf_queues _ .queueHalf _)
    · rw [captureWrite_bufferFull hq hp]
      exact h
  · rw [captureWrite_queueFull hq]
    exact h

/-- A record judged leaves the queues as they are. -/
theorem takeRecord_queues (r : QueuedReading) (s : State) : (takeRecord r s).queues = s.queues := by
  rcases Nat.lt_or_ge 511 (readingMeter r.words) with hbig | hsmall
  · rw [takeRecord_noMeter hbig, tally_frame]
    rfl
  · rw [takeRecord_meter (m := ⟨_, Nat.lt_succ_of_le hsmall⟩) rfl, tally_frame]
    rfl

/-! ## The change queue (R116) -/

theorem planAreaWrite_capacity (t : WriteTxn) (off : Nat) {s : State} (h : CapacityInv s) :
    CapacityInv (planAreaWrite t off s) := by
  unfold planAreaWrite
  split
  · split
    · exact h
    · split
      · exact h
      · split
        · exact h
        · split
          · exact h
          · split
            · split
              · exact h
              · rename_i hroom
                refine postWrite_capacity t ?_
                obtain ⟨hread, _, hpost, hhold⟩ := h
                refine ⟨hread, ?_, hpost, hhold⟩
                rw [List.length_append]
                exact Nat.lt_of_not_le hroom
            · exact postWrite_capacity t (h.of_queues (applyInLoading_queues _ s))
  · exact h

/-! ## Upstream transactions -/

theorem decideWrite_capacity (t : WriteTxn) {s : State} (h : CapacityInv s) : CapacityInv (decideWrite t s) := by
  unfold decideWrite
  split
  · split
    · exact postWrite_capacity t h
    · exact planAreaWrite_capacity t _ h
    · unfold dropRingWrite
      split
      · exact captureWrite_capacity t _ h
      · exact h
    · unfold statusBlockWrite
      split
      · exact statusWrite_capacity _ _ h
      · exact h
    · exact h
    · unfold ringWrite
      split
      · exact h
      · split
        · exact h
        · exact postWrite_capacity t h
  · split <;> exact h

theorem takeUpstream_capacity {f : State → State} {s : State} (h : CapacityInv s)
    (hf : CapacityInv s → CapacityInv (f s)) : CapacityInv (takeUpstream f s) := by
  unfold takeUpstream
  split
  · exact hf h
  · exact h

theorem takeWrite_capacity (t : WriteTxn) {s : State} (h : CapacityInv s) :
    CapacityInv (takeUpstream (decideWrite t) s) := takeUpstream_capacity h (decideWrite_capacity t)

theorem takeRead_capacity (t : ReadTxn) {s : State} (h : CapacityInv s) :
    CapacityInv (takeUpstream (decideRead t) s) :=
  takeUpstream_capacity h fun h => h.of_queues (decideRead_queues t s)

theorem takeTxn_capacity (t : Txn) {s : State} (h : CapacityInv s) :
    CapacityInv (takeUpstream (decideTxn t) s) := by
  cases t with
  | write w => exact takeWrite_capacity w h
  | read r => exact takeRead_capacity r h

theorem takeStatus_capacity (i : Nat) (v : Word) {s : State} (h : CapacityInv s) :
    CapacityInv (takeUpstream (statusWrite i v) s) := takeUpstream_capacity h (statusWrite_capacity i v)

theorem giveCommand_capacity (code argument : BitVec 8) {s : State} (h : CapacityInv s) :
    CapacityInv (giveCommand code argument s) :=
  takeUpstream_capacity h fun h => commandWrite_capacity code argument _ (s := disarm s) h

theorem takeUnitCommand_capacity (code : BitVec 8) (u : UnitId) {s : State} (h : CapacityInv s) :
    CapacityInv (takeUpstream (fun s => unitCmdWrite code u (disarm s)) s) :=
  takeUpstream_capacity h fun h => h.of_queues (unitCmdWrite_queues code u (disarm s))

/-! ## Every command -/

/-- The command is answered, and in the state it leaves no queue passes its capacity. -/
def KeepsCapacity (r : Host.Outcome State Fault Refusal) : Prop := ∃ t, r = .next t ∧ CapacityInv t

theorem KeepsCapacity.next {t : State} (h : CapacityInv t) : KeepsCapacity (.next t) := ⟨t, rfl, h⟩

theorem execBrst_keepsCapacity (level : Bool) {s : State} (h : CapacityInv s) : KeepsCapacity (execBrst s level) := by
  refine .next ?_
  split
  · exact h.of_queues (resetBus_queues (setBrst level s))
  · exact h

theorem execXtalSettled_keepsCapacity {s : State} (h : CapacityInv s) : KeepsCapacity (execXtalSettled s) := by
  refine .next (CapacityInv.of_queues ?_ (settleCrystal_queues _))
  split <;> exact h

/-- A take shortens the reading queue by its head (R27). -/
theorem execReadingTake_keepsCapacity {s : State} (h : CapacityInv s) : KeepsCapacity (execReadingTake s) := by
  unfold execReadingTake
  split
  · exact .next h
  · rename_i r rest hq
    refine .next ?_
    split
    · exact h
    · refine CapacityInv.of_queues ?_ (takeRecord_queues r _)
      obtain ⟨hread, hchange, hpost, hhold⟩ := h
      rw [hq] at hread
      exact ⟨Nat.le_of_succ_le hread, hchange, hpost, hhold⟩

theorem execRecordStart_keepsCapacity {s : State} (h : CapacityInv s) : KeepsCapacity (execRecordStart s) := by
  refine .next ?_
  split
  · exact CapacityInv.of_queues h (grant_queues _)
  · exact h

theorem execFirstBurstAccepted_keepsCapacity {s : State} (h : CapacityInv s) :
    KeepsCapacity (execFirstBurstAccepted s) := by
  unfold execFirstBurstAccepted
  split
  · exact .next (CapacityInv.of_queues h (grant_freePort_queues _))
  · exact .next h

theorem execRecordComplete_keepsCapacity {s : State} (h : CapacityInv s) :
    KeepsCapacity (execRecordComplete s) := by
  unfold execRecordComplete
  split
  · exact .next ((completeRecord_capacity _ h).of_queues (grant_freePort_queues _))
  · exact .next h

theorem execRecordAbandoned_keepsCapacity {s : State} (h : CapacityInv s) :
    KeepsCapacity (execRecordAbandoned s) := by
  have failed : CapacityInv (grant (freePort (failRecord s))) :=
    h.of_queues ((grant_freePort_queues _).trans (failRecord_queues s))
  unfold execRecordAbandoned
  split
  · exact .next failed
  · exact .next failed
  · exact .next h

theorem execDrainWriteAccepted_keepsCapacity {s : State} (h : CapacityInv s) :
    KeepsCapacity (execDrainWriteAccepted s) := by
  unfold execDrainWriteAccepted
  split
  · exact .next (endDrain_capacity h)
  · exact .next h

theorem execDrainWriteDiscarded_keepsCapacity {s : State} (h : CapacityInv s) :
    KeepsCapacity (execDrainWriteDiscarded s) := by
  unfold execDrainWriteDiscarded
  split
  · exact .next (discardDrain_capacity h)
  · exact .next h

theorem execReadAnswer_keepsCapacity (a : MemAnswer) {s : State} (h : CapacityInv s) :
    KeepsCapacity (execReadAnswer a s) := by
  unfold execReadAnswer
  split
  · exact .next (h.of_queues (endRead_queues _ s))
  · exact .next h

theorem execDisregardedMemoryAnswer_keepsCapacity {s : State} (h : CapacityInv s) :
    KeepsCapacity (execDisregardedMemoryAnswer s) := by
  unfold execDisregardedMemoryAnswer
  split
  · exact .next (h.of_queues (grant_freePort_queues s))
  · exact .next h

theorem exec_keepsCapacity (i : Instr) {s : State} (h : CapacityInv s) : KeepsCapacity (exec i s) := by
  cases i with
  | powerOnReset => exact .next (.of_empty rfl (Nat.zero_le _))
  | brst level => exact execBrst_keepsCapacity level h
  | planLockChange level => exact .next h
  | trefPulse dt => exact .next (pulse_capacity h)
  | secondEdge => exact .next (secondEdge_capacity h)
  | xtalSettled => exact execXtalSettled_keepsCapacity h
  | switchTimeout => exact .next (h.of_queues (timeoutSwitch_queues s))
  | clockMonitorFail source => exact .next (h.of_queues (failSource_queues source s))
  | stageDirect => exact .next (runStage_capacity .direct h)
  | stageZones => exact .next (runStage_capacity .zones h)
  | stageResidual => exact .next (runStage_capacity .residual h)
  | stagePrice => exact .next (runStage_capacity .price h)
  | stageOccupancy => exact .next (runStage_capacity .occupancy h)
  | stagePeriod => exact .next (runStage_capacity .period h)
  | stageSummary => exact .next (runStage_capacity .summary h)
  | stageChanges => exact .next (runStage_capacity .changes h)
  | stageEnd => exact .next (runStage_capacity .finish h)
  | dropWrite t => exact .next (takeWrite_capacity t h)
  | planWrite t => exact .next (takeWrite_capacity t h)
  | postedWrite t => exact .next (takeWrite_capacity t h)
  | forwardedRead t => exact .next (takeRead_capacity t h)
  | statementRingAccess t => exact .next (takeTxn_capacity t h)
  | misalignedTransaction t => exact .next (takeTxn_capacity t h)
  | accountWindowWrite t => exact .next (takeWrite_capacity t h)
  | statusWriteRefused t => exact .next (takeWrite_capacity t h)
  | causeWrite value => exact .next (takeStatus_capacity 2 value h)
  | maskWrite value => exact .next (takeStatus_capacity 3 value h)
  | timeWrite value => exact .next (takeStatus_capacity 6 value h)
  | timeAdjustWrite value => exact .next (takeStatus_capacity 7 value h)
  | exportWrite count => exact .next (takeStatus_capacity 11 count h)
  | start => exact .next (giveCommand_capacity 1 0 h)
  | clearArm => exact .next (giveCommand_capacity 2 0 h)
  | clear => exact .next (giveCommand_capacity 3 0 h)
  | periodClose => exact .next (giveCommand_capacity 4 0 h)
  | periodResend => exact .next (giveCommand_capacity 5 0 h)
  | clockSwitch argument => exact .next (giveCommand_capacity 6 argument h)
  | commandBadCode code argument => exact .next (giveCommand_capacity code argument h)
  | openUnit slot => exact .next (takeUnitCommand_capacity 1 slot h)
  | closeUnit slot => exact .next (takeUnitCommand_capacity 2 slot h)
  | forceUnit slot => exact .next (takeUnitCommand_capacity 3 slot h)
  | cancelUnit slot => exact .next (takeUnitCommand_capacity 4 slot h)
  | unitCmdBadCode code slot => exact .next (takeUnitCommand_capacity code slot h)
  | readingTake => exact execReadingTake_keepsCapacity h
  | drainWriteAccepted => exact execDrainWriteAccepted_keepsCapacity h
  | drainWriteDiscarded => exact execDrainWriteDiscarded_keepsCapacity h
  | readAnswer answer => exact execReadAnswer_keepsCapacity answer h
  | memoryTimeout => exact .next (timeoutAccess_capacity h)
  | recordStart => exact execRecordStart_keepsCapacity h
  | firstBurstAccepted => exact execFirstBurstAccepted_keepsCapacity h
  | recordComplete => exact execRecordComplete_keepsCapacity h
  | recordAbandoned => exact execRecordAbandoned_keepsCapacity h
  | disregardedMemoryAnswer => exact execDisregardedMemoryAnswer_keepsCapacity h

theorem step_keepsCapacity {s : State} (h : CapacityInv s) : KeepsCapacity (step s) := by
  unfold step
  split
  · exact .next (idleStep_capacity h)
  · exact exec_keepsCapacity _ h

/-- Settles O5: most events leave the four queues as they are (`_queues`), and the others keep the capacities
(`_capacity`), put together along the commands. -/
theorem stepKeepsCapacities : Obligations.StepKeepsCapacities := by
  intro s t h hstep
  obtain ⟨t', ht', hcapacity⟩ := step_keepsCapacity h
  cases ht'.symm.trans hstep
  exact hcapacity

end Sys2Proof.Machine
end

section
/-! SUPPORT. The billing clock (R75 to R91): what periods, second edges, boundaries and TREF pulses leave of it, each
said once. -/

namespace Sys2Proof.Machine

/-! ## Mode and quality (R85, R89) -/

theorem State.running_of_loading {s : State} (h : s.status.mode = .loading) : s.running = false := by
  simp [State.running, h]

/-- Time quality after a switch: an unset time stays unset (R85). -/
theorem qualityAfterSwitch_eq (src : Source) (q : Quality) :
    qualityAfterSwitch src q = if q = .unset then .unset else if src = .irc then .degraded else .good := by
  cases src <;> rfl

theorem qualityOn_eq (src : Source) : qualityOn src = if src = .irc then .degraded else .good := by
  cases src <;> rfl

/-- A change of time quality moves the clock alone. -/
theorem setQuality_eq (q : Quality) (s : State) : setQuality q s = { s with clock := { s.clock with
    quality := q
    interval := { s.clock.interval with
      degraded := s.clock.interval.degraded || (q == .degraded && s.status.mode == .running) } } } :=
  congrArg (fun k => { s with clock := k }) (setQuality_clock q s)

/-- A boundary recomputed is the next grid point of L (R87). -/
theorem State.nextGrid_spec (s : State) (t : Time) :
    NextGridPoint s.plan.header.len.seconds t (nextGrid s.intervalSeconds t) :=
  Machine.nextGrid_spec _ (IntervalLen.seconds_pos _) t

/-! ## Periods and edges (R75, R82) -/

/-- `dt` periods of the current source, source by source. -/
theorem Clock.pass_eq (dt : Nat) (k : Clock) : k.pass dt = { k with
    sinceRun := k.sinceRun + dt
    phase := if k.current = .tref then k.phase else min (k.phase + dt) 32767
    trefGuard := if k.current = .tref then k.trefGuard.map (· + dt) else k.trefGuard
    xtalQuiet := if k.current = .xtal ∧ dt ≠ 0 then some 0 else k.xtalQuiet } := by
  unfold Clock.pass
  split <;> rename_i h
  · simp [h, Config.periodsPerSecond]
  · by_cases hdt : dt = 0 <;> simp [h, hdt, Config.periodsPerSecond]
  · simp [h]

/-- One period short of the second edge. -/
theorem Clock.pass_one {k : Clock} (hc : k.current ≠ .tref) (hp : k.phase + 1 < 32768) : k.pass 1 = { k with
    sinceRun := k.sinceRun + 1
    phase := k.phase + 1
    xtalQuiet := if k.current = .xtal then some 0 else k.xtalQuiet } := by
  have hmin : min (k.phase + 1) 32767 = k.phase + 1 := by omega
  rw [Clock.pass_eq]
  simp [hc, hmin]

/-- The clock as the second edge finds it, source by source (entries 4, 5). -/
theorem Clock.atEdge_eq (k : Clock) : k.atEdge = { k with
    phase := k.atEdge.phase
    sinceRun := if k.current = .tref then k.sinceRun else k.sinceRun + (32768 - k.phase)
    trefGuard := if k.current = .tref then none else k.trefGuard
    trefQuiet := if k.current = .tref then some 0 else k.trefQuiet
    xtalQuiet := if k.current = .xtal then some 0 else k.xtalQuiet } := by
  unfold Clock.atEdge
  rw [Clock.pass_eq]
  cases h : k.current <;> simp [Clock.restart, Clock.setQuiet, Config.periodsPerSecond]

@[simp] theorem Clock.atEdge_time (k : Clock) : k.atEdge.time = k.time := by rw [Clock.atEdge_eq]
@[simp] theorem Clock.atEdge_requested (k : Clock) : k.atEdge.requested = k.requested := by rw [Clock.atEdge_eq]
@[simp] theorem Clock.atEdge_switch (k : Clock) : k.atEdge.switch = k.switch := by rw [Clock.atEdge_eq]
@[simp] theorem Clock.atEdge_quality (k : Clock) : k.atEdge.quality = k.quality := by rw [Clock.atEdge_eq]
@[simp] theorem Clock.atEdge_nextBoundary (k : Clock) : k.atEdge.nextBoundary = k.nextBoundary := by
  rw [Clock.atEdge_eq]

/-! ## One second of billing time (R75, R87, R88) -/

/-- What a second edge does by itself, before a settled switch takes place. -/
def passSecond (s : State) : State :=
  let s := { s with clock := { s.clock with time := s.clock.time + 1, phase := 0 } }
  if s.running then (if s.clock.time = s.clock.nextBoundary then boundaryEvent s else s) else recomputeBoundary s

/-- A second edge is a second of billing time, then a settled switch. -/
theorem tickSecond_eq (s : State) : tickSecond s =
    if (passSecond s).clock.switch = .settled then completeSwitch (passSecond s) else passSecond s := rfl

/-- In LOADING the next boundary is recomputed (R87). -/
theorem passSecond_loading {s : State} (h : s.status.mode = .loading) : passSecond s = { s with
    clock := { s.clock with
      time := s.clock.time + 1, phase := 0, nextBoundary := nextGrid s.intervalSeconds (s.clock.time + 1) } } :=
  if_neg (by simp [State.running, h])

/-- In RUNNING, short of the boundary, the time alone moves. -/
theorem passSecond_short {s : State} (h : s.status.mode = .running) (ht : s.clock.time + 1 ≠ s.clock.nextBoundary) :
    passSecond s = { s with clock := { s.clock with time := s.clock.time + 1, phase := 0 } } :=
  (if_pos (by simp [State.running, h])).trans (if_neg ht)

/-- In RUNNING the boundary event comes where the boundary is reached (R88). -/
theorem passSecond_boundary {s : State} (h : s.status.mode = .running)
    (ht : s.clock.time + 1 = s.clock.nextBoundary) :
    passSecond s = boundaryEvent { s with clock := { s.clock with time := s.clock.time + 1, phase := 0 } } :=
  (if_pos (by simp [State.running, h])).trans (if_pos ht)

/-! ### The boundary event -/

@[simp] theorem beginClose_clock (b : Time) (s : State) : (beginClose b s).clock = s.clock := by
  unfold beginClose raiseIf
  split <;> rfl

@[simp] theorem beginClose_plan (b : Time) (s : State) : (beginClose b s).plan = s.plan := by
  unfold beginClose raiseIf
  split <;> rfl

@[simp] theorem finishClose_clock (s : State) : (finishClose s).clock = s.clock := by
  obtain ⟨_, _, _, _, _, _, _, _, _, _, _, _, _, h⟩ := finishClose_frame s
  rw [h]

/-- Steps 2 to 5 of R88 are the boundary's whole effect on the clock. -/
theorem boundaryEvent_clock (s : State) :
    (boundaryEvent s).clock = clockAtBoundary s.clock.time (finishClose s).intervalSeconds s.clock := by
  simp [boundaryEvent, State.intervalSeconds]

/-- The clock at a boundary with no close in progress (R88). -/
theorem passSecond_boundary_clock {s : State} (h : s.status.mode = .running) (hclose : s.close = none)
    (ht : s.clock.time + 1 = s.clock.nextBoundary) :
    (passSecond s).clock = clockAtBoundary s.clock.nextBoundary s.intervalSeconds
      { s.clock with time := s.clock.time + 1, phase := 0 } := by
  rw [passSecond_boundary h ht, boundaryEvent_clock, ← ht]
  rw [finishClose_idle]
  · rfl
  · exact hclose

/-- A second of billing time moves neither the sources, their measures and the switch, nor time quality. -/
theorem passSecond_clock_frame (s : State) : (passSecond s).clock = { s.clock with
    time := (passSecond s).clock.time, phase := (passSecond s).clock.phase, adjust := (passSecond s).clock.adjust
    nextBoundary := (passSecond s).clock.nextBoundary, seq := (passSecond s).clock.seq
    interval := (passSecond s).clock.interval } := by
  unfold passSecond
  dsimp only
  split
  · split
    · rw [boundaryEvent_clock]
      rfl
    · rfl
  · rfl

/-- With no switch settled, a second edge is the second of billing time alone. -/
theorem secondEdge_unsettled {s : State} (h : s.clock.switch ≠ .settled) :
    secondEdge s = passSecond { s with clock := s.clock.atEdge } := by
  rw [secondEdge, tickSecond_eq, if_neg]
  rw [passSecond_clock_frame]
  simpa using h

/-! ## TREF pulses (R75, R78, R79, R82) -/

theorem Clock.seeks_iff (k : Clock) (src : Source) :
    k.seeks src = true ↔ k.requested = some src ∧ k.switch ≠ .idle := by
  simp only [Clock.seeks, Bool.and_eq_true, beq_iff_eq, bne_iff_ne]

/-- With another request standing, or none, the source is not sought. -/
theorem Clock.not_seeks {k : Clock} {src : Source} (h : k.requested ≠ some src ∨ k.switch = .idle) :
    ¬ k.seeks src = true := by
  rw [Clock.seeks_iff]
  rintro ⟨hr, hw⟩
  exact h.elim (fun hne => hne hr) hw

theorem Clock.counts_iff (k : Clock) :
    k.counts = true ↔ k.current = .tref ∧ ∀ g, k.trefGuard = some g → 32768 ≤ 2 * g := by
  unfold Clock.counts
  rw [Bool.and_eq_true, beq_iff_eq]
  refine and_congr_right fun _ => ?_
  cases k.trefGuard with
  | none => simp
  | some g => exact decide_eq_true_iff.trans ⟨fun h g' hg' => Option.some.inj hg' ▸ h, fun h => h g rfl⟩

/-- The length a settling run has with a pulse (R78). -/
def runAfterPulse (runCount sinceRun : Nat) : Nat :=
  if runCount = 0 then 1
  else if 99 * 32768 ≤ 100 * sinceRun ∧ 100 * sinceRun ≤ 101 * 32768 then runCount + 1 else 1

theorem Clock.advanceRun_eq (k : Clock) : k.advanceRun = { k with
    runCount := runAfterPulse k.runCount k.sinceRun, sinceRun := 0
    switch := if 3 ≤ runAfterPulse k.runCount k.sinceRun then .settled else k.switch } := by
  have hw : inWindow k.sinceRun = true ↔ 99 * 32768 ≤ 100 * k.sinceRun ∧ 100 * k.sinceRun ≤ 101 * 32768 :=
    (Bool.and_eq_true _ _).to_iff.trans (and_congr decide_eq_true_iff decide_eq_true_iff)
  simp only [Clock.advanceRun, runAfterPulse, hw]
  rfl

/-- The clock after a pulse has restarted the measure and moved a settling run. -/
def Clock.pulsed (k : Clock) : Clock :=
  if k.restartTref.requested = some .tref ∧ k.restartTref.switch = .settling then k.restartTref.advanceRun
  else k.restartTref

/-- A pulse moves the measure and the run, and is then counted or not. -/
theorem pulse_eq (s : State) : pulse s = if s.clock.pulsed.counts then
    tickSecond { s with clock := { s.clock.pulsed with trefGuard := none } } else
    { s with clock := s.clock.pulsed } := by
  unfold pulse Clock.pulsed
  dsimp only
  split <;> rfl

/-- A pulse of a watched TREF outside a settling run restarts its measure alone. -/
theorem Clock.pulsed_watched {k : Clock} (h : k.current = .tref ∨ (k.requested = some .tref ∧ k.switch ≠ .idle))
    (hr : ¬ (k.requested = some .tref ∧ k.switch = .settling)) : k.pulsed = { k with trefQuiet := some 0 } := by
  have hrestart : k.restartTref = { k with trefQuiet := some 0 } := if_pos (by simpa [Clock.seeks] using h)
  unfold Clock.pulsed
  rw [hrestart]
  exact if_neg hr

/-- A pulse in a settling run moves the run. -/
theorem Clock.pulsed_run {k : Clock} (hr : k.requested = some .tref) (hw : k.switch = .settling) :
    k.pulsed = { k with
      runCount := runAfterPulse k.runCount k.sinceRun, sinceRun := 0, trefQuiet := some 0
      switch := if 3 ≤ runAfterPulse k.runCount k.sinceRun then .settled else .settling } := by
  have hrestart : k.restartTref = { k with trefQuiet := some 0 } := if_pos (by simp [Clock.seeks, hr, hw])
  unfold Clock.pulsed
  rw [hrestart, Clock.advanceRun_eq, ← hw]
  exact if_pos ⟨hr, rfl⟩

/-- A pulse of a TREF neither current nor requested moves nothing. -/
theorem Clock.pulsed_unsought {k : Clock} (hc : k.current ≠ .tref)
    (hr : k.requested ≠ some .tref ∨ k.switch = .idle) : k.pulsed = k := by
  have hrestart : k.restartTref = k := if_neg fun h => h.elim hc (Clock.not_seeks hr)
  unfold Clock.pulsed
  rw [hrestart]
  refine if_neg ?_
  rintro ⟨hreq, hset⟩
  rcases hr with h | h
  · exact h hreq
  · simp [hset] at h

/-- A counted pulse outside a settling run is a second edge (entry 5). -/
theorem pulse_counted {s : State} (hc : s.clock.current = .tref)
    (hr : ¬ (s.clock.requested = some .tref ∧ s.clock.switch = .settling))
    (hg : ∀ g, s.clock.trefGuard = some g → 32768 ≤ 2 * g) : pulse s = secondEdge s := by
  have hcount : Clock.counts { s.clock with trefQuiet := some 0 } = true := (Clock.counts_iff _).mpr ⟨hc, hg⟩
  rw [pulse_eq, Clock.pulsed_watched (.inl hc) hr, if_pos hcount, secondEdge, Clock.atEdge, if_pos hc]
  rfl

/-- A pulse that is not counted changes the measure and the run alone. -/
theorem pulse_uncounted {s : State} {k : Clock} (hk : s.clock.pulsed = k)
    (hcount : k.current = .tref → ∃ g, k.trefGuard = some g ∧ 2 * g < 32768) : pulse s = { s with clock := k } := by
  have hnot : ¬ k.counts = true := by
    rw [Clock.counts_iff]
    rintro ⟨hc, hg⟩
    obtain ⟨g, hguard, hlt⟩ := hcount hc
    exact Nat.not_le.mpr hlt (hg g hguard)
  rw [pulse_eq, hk, if_neg hnot]

/-! ## Edges and pulses -/

/-- A second edge short of a boundary, with no switch settled (R75, R87). -/
theorem execSecondEdge_short {s : State} (hsw : s.clock.switch ≠ .settled)
    (hb : s.status.mode = .loading ∨ s.clock.time + 1 ≠ s.clock.nextBoundary) :
    exec .secondEdge s = .next { s with clock := { s.clock with
      time := s.clock.time + 1, phase := 0
      nextBoundary := if s.status.mode = .loading then nextGrid s.intervalSeconds (s.clock.time + 1)
        else s.clock.nextBoundary
      sinceRun := if s.clock.current = .tref then s.clock.sinceRun
        else s.clock.sinceRun + (32768 - s.clock.phase)
      trefGuard := if s.clock.current = .tref then none else s.clock.trefGuard
      trefQuiet := if s.clock.current = .tref then some 0 else s.clock.trefQuiet
      xtalQuiet := if s.clock.current = .xtal then some 0 else s.clock.xtalQuiet } } := by
  show Host.Outcome.next (secondEdge s) = _
  rw [secondEdge_unsettled hsw, Clock.atEdge_eq]
  by_cases hm : s.status.mode = .loading
  · rw [if_pos hm]
    exact congrArg _ (passSecond_loading hm)
  · rw [if_neg hm]
    exact congrArg _ (passSecond_short (running_of_not_loading hm) (hb.resolve_left hm))

/-- Settles O13: the second edge by the mode, and the pulse by what TREF is to the clock. -/
theorem edgesAndPulsesAdvanceBillingTime : Obligations.EdgesAndPulsesAdvanceBillingTime := by
  refine ⟨fun s hsw hb => ⟨_, execSecondEdge_short hsw hb, rfl, fun hm => ?_, fun hm => ?_⟩, fun s dt k hk => ?_⟩
  · simp [hm]
  · simpa only [if_pos hm] using s.nextGrid_spec (s.clock.time + 1)
  · have hpulse : exec (.trefPulse dt) s = .next (pulse { s with clock := k }) := by
      rw [hk, ← Clock.pass_eq]
      rfl
    have hcurrent : s.clock.current = k.current := by rw [hk]
    have hrequested : s.clock.requested = k.requested := by rw [hk]
    have hswitch : s.clock.switch = k.switch := by rw [hk]
    have hcount : s.clock.runCount = k.runCount := by rw [hk]
    rw [hpulse, hcurrent, hrequested, hswitch, hcount]
    refine ⟨fun hc hr hg => ?_, fun g hc hr hg hlt => ?_, fun n hc hr hw hn => ?_, fun hc hr hw => ?_,
      fun hc hr => ?_⟩
    · exact congrArg _ (pulse_counted (s := { s with clock := k }) hc hr hg)
    · exact congrArg _ (pulse_uncounted (s := { s with clock := k }) (Clock.pulsed_watched (.inl hc) hr)
        fun _ => ⟨g, hg, hlt⟩)
    · rw [hn]
      exact congrArg _ (pulse_uncounted (s := { s with clock := k }) (Clock.pulsed_run hr hw) fun h => absurd h hc)
    · exact congrArg _ (pulse_uncounted (s := { s with clock := k })
        (Clock.pulsed_watched (.inr ⟨hr, by simp [hw]⟩) (by simp [hw])) fun h => absurd h hc)
    · exact congrArg _ (pulse_uncounted (s := { s with clock := k }) (Clock.pulsed_unsought hc hr)
        fun h => absurd h hc)

/-- Settles O14: with no close in progress the boundary's clock is that of R88 over the clock at the edge. -/
theorem boundaryMovesTheClock : Obligations.BoundaryMovesTheClock := by
  intro s hm hclose hsw ht
  refine ⟨_, rfl, fun b len a hb hlen ha => ?_⟩
  have hedge : s.clock.atEdge.time + 1 = s.clock.atEdge.nextBoundary := by simpa using ht
  have hclock : (secondEdge s).clock = clockAtBoundary s.clock.atEdge.nextBoundary s.intervalSeconds
      { s.clock.atEdge with time := s.clock.atEdge.time + 1, phase := 0 } := by
    rw [secondEdge_unsettled hsw]
    exact passSecond_boundary_clock (s := { s with clock := s.clock.atEdge }) hm hclose hedge
  rw [hclock, Clock.atEdge_eq]
  subst hb hlen ha
  exact ⟨rfl, rfl, rfl, rfl, rfl, rfl, rfl, rfl, rfl, rfl⟩

end Sys2Proof.Machine
end

section
/-! SUPPORT. The switch of sources and the monitor (R77 to R85): how a switch settles, fails and takes place. -/

namespace Sys2Proof.Machine

/-! ## The end of a switch (R77, R79, R85) -/

/-- A switch that ends SWITCHED: the request is gone, time quality follows, CLOCK_EVENT is raised. -/
theorem endSwitched_eq (src : Source) (s : State) : endSwitched src s = { s with
    clock := { s.clock with
      requested := none, switch := .idle, lastSwitch := .switched
      quality := qualityAfterSwitch src s.clock.quality
      interval := { s.clock.interval with degraded := s.clock.interval.degraded ||
        (qualityAfterSwitch src s.clock.quality == .degraded && s.status.mode == .running) } }
    status := { s.status with causes := s.status.causes ||| Cause.clockEvent.mask } } := by
  rw [endSwitched, setQuality_eq]
  rfl

/-- The switch that takes place is that to the requested source. -/
theorem completeSwitch_eq {s : State} {src : Source} (h : s.clock.requested = some src) : completeSwitch s =
    endSwitched src { s with clock := { s.clock with
      current := src, phase := 0, trefGuard := if src = .tref then some 0 else none } } := by
  unfold completeSwitch
  rw [h]

/-! ### The second edge at which it takes place -/

/-- The clock with another request standing. -/
def Clock.withRequest (r : Option Source) (w : SwitchState) (k : Clock) : Clock :=
  { k with requested := r, switch := w }

/-- The state with another request standing. -/
def State.withRequest (r : Option Source) (w : SwitchState) (s : State) : State :=
  { s with clock := s.clock.withRequest r w }

theorem Clock.atEdge_withRequest (r : Option Source) (w : SwitchState) (k : Clock) :
    (k.withRequest r w).atEdge = k.atEdge.withRequest r w := by
  unfold Clock.withRequest Clock.atEdge Clock.pass
  cases k.current <;> rfl

/-- The close that begins at a boundary does not depend on the request. -/
theorem beginClose_withRequest (b : Time) (r : Option Source) (w : SwitchState) (s : State) :
    beginClose b (s.withRequest r w) = (beginClose b s).withRequest r w := by
  have hlive : (s.withRequest r w).live = s.live := rfl
  unfold beginClose raiseIf
  rw [hlive]
  split <;> rfl

/-- The boundary event does not depend on the request. -/
theorem boundaryEvent_withRequest (r : Option Source) (w : SwitchState) {s : State} (h : s.close = none) :
    boundaryEvent (s.withRequest r w) = (boundaryEvent s).withRequest r w := by
  unfold boundaryEvent
  rw [finishClose_idle h, finishClose_idle (s := s.withRequest r w) h]
  dsimp only
  rw [beginClose_withRequest]
  rfl

/-- A second of billing time does not depend on the request; a boundary during an unfinished close is left out. -/
theorem passSecond_withRequest (r : Option Source) (w : SwitchState) {s : State}
    (h : s.status.mode = .loading ∨ s.clock.time + 1 ≠ s.clock.nextBoundary ∨ s.close = none) :
    passSecond (s.withRequest r w) = (passSecond s).withRequest r w := by
  by_cases hm : s.status.mode = .loading
  · rw [passSecond_loading hm, passSecond_loading (s := s.withRequest r w) hm]
    rfl
  · have hrun := running_of_not_loading hm
    by_cases ht : s.clock.time + 1 = s.clock.nextBoundary
    · have hclose : s.close = none := (h.resolve_left hm).resolve_left fun hne => hne ht
      rw [passSecond_boundary hrun ht]
      exact (passSecond_boundary (s := s.withRequest r w) hrun ht).trans
        (boundaryEvent_withRequest r w
          (s := { s with clock := { s.clock with time := s.clock.time + 1, phase := 0 } }) hclose)
    · rw [passSecond_short hrun ht, passSecond_short (s := s.withRequest r w) hrun ht]
      rfl

/-- The state as a second edge leaves it by itself. -/
def State.afterEdge (s : State) : State := passSecond { s with clock := s.clock.atEdge }

theorem State.afterEdge_clock (s : State) : s.afterEdge.clock.requested = s.clock.requested ∧
    s.afterEdge.clock.switch = s.clock.switch ∧ s.afterEdge.clock.quality = s.clock.quality := by
  rw [State.afterEdge, passSecond_clock_frame]
  exact ⟨s.clock.atEdge_requested, s.clock.atEdge_switch, s.clock.atEdge_quality⟩

/-- With no request standing, the edge does the same by itself. -/
theorem secondEdge_withoutRequest {s : State}
    (h : s.status.mode = .loading ∨ s.clock.time + 1 ≠ s.clock.nextBoundary ∨ s.close = none) :
    secondEdge (s.withRequest none .idle) = s.afterEdge.withRequest none .idle := by
  have hedge : { s.withRequest none .idle with clock := (s.withRequest none .idle).clock.atEdge } =
      ({ s with clock := s.clock.atEdge } : State).withRequest none .idle :=
    congrArg (fun k => { s with clock := k }) (Clock.atEdge_withRequest none .idle s.clock)
  have hidle : (s.withRequest none .idle).clock.switch ≠ .settled := fun h => by cases h
  rw [secondEdge_unsettled hidle, hedge]
  exact passSecond_withRequest none .idle (s := { s with clock := s.clock.atEdge }) (by simpa using h)

/-- A settled switch takes place after what the edge does by itself (R79). -/
theorem secondEdge_settled {s : State} (hw : s.clock.switch = .settled) :
    secondEdge s = completeSwitch s.afterEdge := by
  obtain ⟨_, hswitch, _⟩ := s.afterEdge_clock
  exact (tickSecond_eq _).trans (if_pos (hswitch.trans hw))

/-- The switch that takes place at a second edge, over what the edge does with no request standing. -/
theorem execSecondEdge_settled {s : State} {src : Source} (hw : s.clock.switch = .settled)
    (hr : s.clock.requested = some src)
    (h : s.status.mode = .loading ∨ s.clock.time + 1 ≠ s.clock.nextBoundary ∨ s.close = none) :
    ∃ t e, exec .secondEdge (s.withRequest none .idle) = .next e ∧ exec .secondEdge s = .next t ∧
      t = { e with
        clock := { e.clock with
          current := src, phase := 0, lastSwitch := .switched, quality := qualityAfterSwitch src s.clock.quality
          trefGuard := if src = .tref then some 0 else none
          interval := { e.clock.interval with degraded := e.clock.interval.degraded ||
            (qualityAfterSwitch src s.clock.quality == .degraded && s.status.mode == .running) } }
        status := { e.status with causes := e.status.causes ||| Cause.clockEvent.mask } } := by
  refine ⟨_, _, congrArg Host.Outcome.next (secondEdge_withoutRequest h),
    congrArg Host.Outcome.next (secondEdge_settled hw), ?_⟩
  obtain ⟨hrequested, _, hquality⟩ := s.afterEdge_clock
  have hmode : s.afterEdge.status.mode = s.status.mode := by
    have hstable := (secondEdge_occStable (s.withRequest none .idle)).mode
    rw [secondEdge_withoutRequest h] at hstable
    exact hstable
  rw [completeSwitch_eq (hrequested.trans hr), endSwitched_eq, ← hquality, ← hmode]
  rfl

/-! ## Settling, limit and monitor (R78, R80, R82 to R84) -/

/-- A crystal sought and still settling has settled. -/
theorem execXtalSettled_settling {s : State} (hr : s.clock.requested = some .xtal) (hw : s.clock.switch = .settling) :
    exec .xtalSettled s = .next { s with clock := { s.clock with
      switch := .settled, crystalPeriods := 1024, xtalQuiet := some 0 } } := by
  have hseeks : s.clock.seeks .xtal = true := (s.clock.seeks_iff .xtal).mpr ⟨hr, by simp [hw]⟩
  show Host.Outcome.next (settleCrystal _) = _
  rw [if_pos hseeks]
  exact congrArg _ (if_pos ⟨hr, hw⟩)

/-- A crystal that has settled restarts its measure. -/
theorem execXtalSettled_settled {s : State} (hr : s.clock.requested = some .xtal) (hw : s.clock.switch = .settled) :
    exec .xtalSettled s = .next { s with clock := { s.clock with xtalQuiet := some 0 } } := by
  have hseeks : s.clock.seeks .xtal = true := (s.clock.seeks_iff .xtal).mpr ⟨hr, by simp [hw]⟩
  show Host.Outcome.next (settleCrystal _) = _
  rw [if_pos hseeks]
  exact congrArg _ (if_neg fun h => by simp [Clock.restart, Clock.setQuiet, hw] at h)

/-- A crystal that no switch seeks settles nothing (entry 1). -/
theorem execXtalSettled_other {s : State} (h : s.clock.requested ≠ some .xtal ∨ s.clock.switch = .idle) :
    exec .xtalSettled s = .next s := by
  show Host.Outcome.next (settleCrystal _) = _
  rw [if_neg (Clock.not_seeks h)]
  refine congrArg _ (if_neg ?_)
  rintro ⟨hr, hw⟩
  simp [hr, hw] at h

/-- The monitor watches neither a source that is not sought nor one whose measure has not started (R82). -/
theorem Clock.not_watches {k : Clock} {src : Source} (hc : k.current ≠ src)
    (h : (k.requested ≠ some src ∨ k.switch = .idle) ∨ k.quiet src = none) : k.watches src = false := by
  rw [← Bool.not_eq_true, Clock.watches_iff]
  rintro ⟨_, hcurrent | ⟨hr, hw, hq⟩⟩
  · exact hc hcurrent
  · exact h.elim (fun hs => hs.elim (fun hne => hne hr) hw) hq

/-- The current source fails over to the IRC (R83). -/
theorem failSource_current {s : State} {src : Source} (hsrc : src ≠ .irc) (hc : s.clock.current = src) :
    failSource src s = { s with
      clock := { s.clock with
        current := .irc, phase := if src = .tref then 16384 else s.clock.phase, trefGuard := none
        quality := if s.clock.quality = .unset then .unset else .degraded
        interval := { s.clock.interval with degraded := s.clock.interval.degraded ||
          (s.status.mode == .running && s.clock.quality != .unset) } }
      status := { s.status with causes := s.status.causes ||| Cause.clockFail.mask } } := by
  have hmark : ((if s.clock.quality = .unset then Quality.unset else .degraded) == .degraded &&
      s.status.mode == .running) = (s.status.mode == .running && s.clock.quality != .unset) := by
    cases s.clock.quality <;> cases s.status.mode <;> rfl
  have hwatch : s.clock.watches src = true := (s.clock.watches_iff src).mpr ⟨hsrc, .inl hc⟩
  rw [failSource, if_pos hwatch, if_pos hc, failOver, setQuality_eq, hmark]
  rfl

/-- The switch to a watched source that fails is abandoned (R84). -/
theorem failSource_requested {s : State} {src : Source} (hsrc : src ≠ .irc) (hc : s.clock.current ≠ src)
    (hr : s.clock.requested = some src) (hw : s.clock.switch ≠ .idle) (hq : s.clock.quiet src ≠ none) :
    failSource src s = raise .clockFail (abandonSwitch s) := by
  have hwatch : s.clock.watches src = true := (s.clock.watches_iff src).mpr ⟨hsrc, .inr ⟨hr, hw, hq⟩⟩
  rw [failSource, if_pos hwatch, if_neg hc]

/-- The measure of a source other than the IRC. -/
theorem Clock.quiet_eq (k : Clock) {src : Source} (h : src ≠ .irc) :
    k.quiet src = if src = .tref then k.trefQuiet else k.xtalQuiet := by
  cases src
  case irc => exact absurd rfl h
  all_goals rfl

/-- Settles O17, event by event. -/
theorem switchesSettleFailOrTakePlace : Obligations.SwitchesSettleFailOrTakePlace := by
  intro s
  refine ⟨execXtalSettled_settling, execXtalSettled_settled, execXtalSettled_other, fun hw => ?_, fun hw => ?_,
    fun src quiet hsrc hq => ?_, fun src q hw hr h hq => ?_⟩
  · exact congrArg Host.Outcome.next (if_pos hw)
  · exact congrArg Host.Outcome.next (if_neg hw)
  · rw [← Clock.quiet_eq _ hsrc] at hq
    subst hq
    refine ⟨fun hc => congrArg Host.Outcome.next (failSource_current hsrc hc), fun hc hr hw hquiet => ?_,
      fun hc h => ?_⟩
    · refine ⟨_, congrArg Host.Outcome.next (failSource_requested hsrc hc hr hw hquiet), rfl, fun c => ?_⟩
      rw [causeSet_raise, abandonSwitch, causeSet_raise, Bool.or_right_comm]
      rfl
    · refine congrArg Host.Outcome.next (failSource_other (Clock.not_watches hc ?_))
      exact or_assoc.mpr h
  · rw [hq, ← qualityAfterSwitch_eq]
    exact execSecondEdge_settled hw hr h

end Sys2Proof.Machine
end

section
/-! SUPPORT. One period of an oscillator on an idle step (R75, R78, R80, R82, R157; entries 3, 20, 24, 32). -/

namespace Sys2Proof.Machine

/-! ## The link clock (R157) -/

theorem linkPeriod_free {s : State} (h : s.link.port = none) : linkPeriod s = s := by
  unfold linkPeriod
  rw [h]

theorem linkPeriod_ages {s : State} (h : s.link.port ≠ none) (hage : s.link.age + 1 < 1024) :
    linkPeriod s = { s with link := { s.link with age := s.link.age + 1 } } := by
  obtain ⟨a, ha⟩ := Option.ne_none_iff_exists'.mp h
  unfold linkPeriod
  rw [ha]
  exact if_pos hage

theorem linkPeriod_timeout {s : State} (h : s.link.port ≠ none) (hage : 1024 ≤ s.link.age + 1) :
    linkPeriod s = timeoutAccess s := by
  obtain ⟨a, ha⟩ := Option.ne_none_iff_exists'.mp h
  unfold linkPeriod
  rw [ha]
  exact if_neg (Nat.not_lt.mpr hage)

/-! ## A period of the current source (R75) -/

theorem sourcePeriod_short {s : State} (hc : s.clock.current ≠ .tref) (hp : s.clock.phase + 1 < 32768) :
    sourcePeriod s = { s with clock := { s.clock with
      phase := s.clock.phase + 1, sinceRun := s.clock.sinceRun + 1
      xtalQuiet := if s.clock.current = .xtal then some 0 else s.clock.xtalQuiet } } := by
  rw [← Clock.pass_one hc hp]
  exact if_pos hp

theorem sourcePeriod_edge {s : State} (hp : 32768 ≤ s.clock.phase + 1) : sourcePeriod s = secondEdge s :=
  if_neg (Nat.not_lt.mpr hp)

/-! ## The crystal (R78, R82) -/

theorem crystalPeriod_current {s : State} (hc : s.clock.current = .xtal) : crystalPeriod s = sourcePeriod s :=
  if_pos hc

/-- A crystal neither current nor requested does not run. -/
theorem crystalPeriod_other {s : State} (hc : s.clock.current ≠ .xtal)
    (h : s.clock.requested ≠ some .xtal ∨ s.clock.switch = .idle) : crystalPeriod s = s := by
  exact (if_neg hc).trans (if_neg (Clock.not_seeks h))

/-- A period of a requested crystal restarts its measure and may count toward settling. -/
theorem crystalPeriod_sought {s : State} (hc : s.clock.current ≠ .xtal) (hr : s.clock.requested = some .xtal)
    (hw : s.clock.switch ≠ .idle) : crystalPeriod s =
      if s.clock.switch = .settling then
        if s.clock.crystalPeriods + 1 < 1024 then { s with clock := { s.clock with
          crystalPeriods := s.clock.crystalPeriods + 1, xtalQuiet := some 0 } }
        else settleCrystal { s with clock := { s.clock with xtalQuiet := some 0 } }
      else { s with clock := { s.clock with xtalQuiet := some 0 } } :=
  (if_neg hc).trans (if_pos ((s.clock.seeks_iff .xtal).mpr ⟨hr, hw⟩))

/-- The crystal's 1024th period settles it as XTAL_SETTLED does. -/
theorem crystalPeriod_settles {s : State} (hc : s.clock.current ≠ .xtal) (hr : s.clock.requested = some .xtal)
    (hw : s.clock.switch = .settling) (hn : 1024 ≤ s.clock.crystalPeriods + 1) :
    exec .xtalSettled s = .next (crystalPeriod s) := by
  rw [execXtalSettled_settling hr hw, crystalPeriod_sought hc hr (by simp [hw]), if_pos hw,
    if_neg (Nat.not_lt.mpr hn)]
  exact congrArg Host.Outcome.next (if_pos (show _ ∧ _ from ⟨hr, hw⟩)).symm

/-! ## The IRC: the source, the limit and the monitor, in this order (R80, R82; entry 32) -/

/-- What a period of the IRC is to the current source (entry 24). -/
def ircSourcePeriod (s : State) : State :=
  match s.clock.current with
  | .irc => sourcePeriod s
  | .tref => { s with clock := s.clock.pass 1 }
  | .xtal => s

/-- A period of the IRC, part by part. -/
theorem oscillatorPeriod_irc (s : State) : oscillatorPeriod .irc s = monitorPeriod .xtal Config.xtalLimit
    (monitorPeriod .tref Config.trefLimit (limitPeriod (ircSourcePeriod s))) := rfl

theorem ircSourcePeriod_irc {s : State} (h : s.clock.current = .irc) : ircSourcePeriod s = sourcePeriod s := by
  unfold ircSourcePeriod
  rw [h]

theorem ircSourcePeriod_xtal {s : State} (h : s.clock.current = .xtal) : ircSourcePeriod s = s := by
  unfold ircSourcePeriod
  rw [h]

/-- While TREF is current, the IRC counts toward the half second after the switch edge. -/
theorem ircSourcePeriod_tref {s : State} (h : s.clock.current = .tref) :
    ircSourcePeriod s = { s with clock := { s.clock with
      sinceRun := s.clock.sinceRun + 1, trefGuard := s.clock.trefGuard.map (· + 1) } } := by
  unfold ircSourcePeriod Clock.pass
  simp only [h]

theorem limitPeriod_other {s : State} (h : s.clock.switch ≠ .settling) : limitPeriod s = s := if_neg h

theorem limitPeriod_short {s : State} (h : s.clock.switch = .settling) (hl : s.clock.limit + 1 < 131072) :
    limitPeriod s = { s with clock := { s.clock with limit := s.clock.limit + 1 } } :=
  (if_pos h).trans (if_neg (Nat.not_le.mpr hl))

theorem limitPeriod_end {s : State} (h : s.clock.switch = .settling) (hl : 131072 ≤ s.clock.limit + 1) :
    limitPeriod s = timeoutSwitch { s with clock := { s.clock with limit := s.clock.limit + 1 } } :=
  (if_pos h).trans (if_pos hl)

/-- A measure that has not started, or of a source that is not watched, stands. -/
theorem monitorPeriod_other {src : Source} (limit : Nat) {s : State} (h : s.clock.quiet src = none ∨
    (s.clock.current ≠ src ∧ (s.clock.requested ≠ some src ∨ s.clock.switch = .idle))) :
    monitorPeriod src limit s = s := by
  unfold monitorPeriod
  split
  · rfl
  · rename_i q hq
    obtain ⟨hc, hs⟩ := h.resolve_left (by rw [hq]; exact Option.some_ne_none q)
    exact if_neg (Bool.not_eq_true _ ▸ Clock.not_watches hc (.inl hs))

theorem monitorPeriod_watched {src : Source} (limit : Nat) {s : State} {q : Nat} (hsrc : src ≠ .irc)
    (hq : s.clock.quiet src = some q)
    (h : s.clock.current = src ∨ (s.clock.requested = some src ∧ s.clock.switch ≠ .idle)) :
    monitorPeriod src limit s =
      if limit ≤ q + 1 then failSource src s else { s with clock := s.clock.setQuiet src (q + 1) } := by
  have hwatch : s.clock.watches src = true := by
    rw [Clock.watches_iff, hq]
    exact ⟨hsrc, h.imp_right fun ⟨hr, hw⟩ => ⟨hr, hw, Option.some_ne_none q⟩⟩
  unfold monitorPeriod
  rw [hq]
  exact if_pos hwatch

/-- On an empty queue a step is an idle step. -/
theorem step_idle {s : State} (h : s.pending = []) : step s = .next (idleStep s) := by
  unfold step
  rw [h]

/-- Settles O18: the states between are those the IRC's period leaves after each of its parts. -/
theorem idleStepsMoveTheMeasures : Obligations.IdleStepsMoveTheMeasures := by
  intro s
  refine ⟨fun h => ?_, linkPeriod_free, linkPeriod_ages,
    fun h hage => congrArg Host.Outcome.next (linkPeriod_timeout h hage).symm, fun hc hp => ?_, fun hc hp => ?_,
    crystalPeriod_other, fun hc hr hw => ?_, fun hc hr hw hn => ?_, crystalPeriod_settles, ?_⟩
  · rw [step_idle h]
    rfl
  · show crystalPeriod s = _
    rw [crystalPeriod_current hc, sourcePeriod_short (by simp [hc]) hp, if_pos hc]
  · show _ = Host.Outcome.next (crystalPeriod s)
    rw [crystalPeriod_current hc, sourcePeriod_edge hp]
    rfl
  · show crystalPeriod s = _
    rw [crystalPeriod_sought hc hr (by simp [hw]), if_neg (by simp [hw])]
  · show crystalPeriod s = _
    rw [crystalPeriod_sought hc hr (by simp [hw]), if_pos hw, if_pos hn]
  · rw [oscillatorPeriod_irc]
    refine ⟨ircSourcePeriod s, limitPeriod (ircSourcePeriod s),
      monitorPeriod .tref Config.trefLimit (limitPeriod (ircSourcePeriod s)), fun hc hp => ?_, fun hc hp => ?_,
      ircSourcePeriod_xtal, ircSourcePeriod_tref, limitPeriod_other, limitPeriod_short,
      fun hw hl => congrArg Host.Outcome.next (limitPeriod_end hw hl).symm, monitorPeriod_other (src := .tref) _,
      fun q hq h => ⟨fun hl => ?_, fun hl => ?_⟩, monitorPeriod_other (src := .xtal) _,
      fun q hq h => ⟨fun hl => ?_, fun hl => ?_⟩⟩
    · rw [ircSourcePeriod_irc hc, sourcePeriod_short (by simp [hc]) hp, if_neg (by simp [hc])]
    · rw [ircSourcePeriod_irc hc, sourcePeriod_edge hp]
      rfl
    · exact (monitorPeriod_watched (src := .tref) _ (by decide) hq h).trans (if_neg (Nat.not_le.mpr hl))
    · exact congrArg Host.Outcome.next
        ((monitorPeriod_watched (src := .tref) _ (by decide) hq h).trans (if_pos hl)).symm
    · exact (monitorPeriod_watched (src := .xtal) _ (by decide) hq h).trans (if_neg (Nat.not_le.mpr hl))
    · exact congrArg Host.Outcome.next
        ((monitorPeriod_watched (src := .xtal) _ (by decide) hq h).trans (if_pos hl)).symm

end Sys2Proof.Machine
end

section
/-! SUPPORT. The clock's writes: CLOCK_SWITCH (R77), the TIME and TIME_ADJUST words (R86, R90). -/

namespace Sys2Proof.Machine

/-! ## Time and adjustment (R86, R90) -/

theorem execTimeWrite_eq {s : State} (h : UpstreamFree s) (v : Word) :
    exec (.timeWrite v) s = .next (writeTime v (disarm s)) :=
  congrArg Host.Outcome.next (takeUpstream_free h _)

theorem execTimeAdjustWrite_eq {s : State} (h : UpstreamFree s) (v : Word) :
    exec (.timeAdjustWrite v) s = .next (writeTimeAdjust v (disarm s)) :=
  congrArg Host.Outcome.next (takeUpstream_free h _)

/-- A time set in LOADING: the quality is the source's, the open interval stands (R85, R86; entry 16). -/
theorem setTime_loading {s : State} (h : s.status.mode = .loading) (v : Time) : setTime v s = { s with
    clock := { s.clock with
      time := v, phase := 0, adjust := 0, nextBoundary := nextGrid s.intervalSeconds v
      quality := if s.clock.current = .irc then .degraded else .good } } := by
  have hmark (q : Quality) : (s.clock.interval.degraded || (q == .degraded && s.status.mode == .running)) =
      s.clock.interval.degraded := by simp [h]
  rw [setTime, setQuality_eq, qualityOn_eq]
  dsimp only
  rw [hmark]
  rfl

theorem adjustInRange_iff (len : Nat) (a : Int) : adjustInRange len a = true ↔ 2 * a.natAbs ≤ len :=
  decide_eq_true_iff

theorem writeTimeAdjust_refused {s : State} {v : Word}
    (h : s.locked = true ∨ s.plan.header.len.seconds < 2 * v.toInt.natAbs) :
    writeTimeAdjust v s = respond .refuse s := by
  refine if_pos ?_
  rw [Bool.or_eq_true, Bool.not_eq_true', ← Bool.not_eq_true, adjustInRange_iff, Nat.not_le]
  exact h

theorem writeTimeAdjust_taken {s : State} {v : Word} (hl : s.locked = false)
    (h : 2 * v.toInt.natAbs ≤ s.plan.header.len.seconds) :
    writeTimeAdjust v s = acceptWrite { s with clock := { s.clock with adjust := v.toInt } } := by
  have hrange : adjustInRange s.intervalSeconds v.toInt = true := (adjustInRange_iff _ _).mpr h
  refine if_neg ?_
  rw [hl, hrange]
  decide

/-- Settles O20, by the mode and by the two conditions on an adjustment. -/
theorem timeAndAdjustmentWritesAreJudged : Obligations.TimeAndAdjustmentWritesAreJudged := by
  intro s v hfree
  rw [execTimeWrite_eq hfree, execTimeAdjustWrite_eq hfree]
  refine ⟨fun hm => ⟨_, rfl, ?_⟩, fun hm => ?_, fun h => ?_, fun hl h => ?_⟩
  · have htaken : writeTime v (disarm s) = acceptWrite (setTime v (disarm s)) :=
      if_neg (by simp [State.running, hm])
    rw [htaken, setTime_loading (s := disarm s) hm]
    exact ⟨rfl, (disarm s).nextGrid_spec v⟩
  · exact congrArg Host.Outcome.next (if_pos (by simp [State.running, hm]))
  · exact congrArg Host.Outcome.next (writeTimeAdjust_refused (s := disarm s) h)
  · exact congrArg Host.Outcome.next (writeTimeAdjust_taken (s := disarm s) hl h)

/-! ## CLOCK_SWITCH (R77) -/

/-- The argument that names a source (R182). -/
def argumentOf : Source → BitVec 8
  | .irc => 1
  | .xtal => 2
  | .tref => 3

theorem sourceOfArgument_argumentOf (src : Source) : sourceOfArgument (argumentOf src) = some src := by
  cases src <;> rfl

/-- Every other argument names none. -/
theorem sourceOfArgument_eq_none {a : BitVec 8} : sourceOfArgument a = none ↔ a ≠ 1 ∧ a ≠ 2 ∧ a ≠ 3 := by
  unfold sourceOfArgument
  constructor
  · rintro h
    refine ⟨?_, ?_, ?_⟩ <;> rintro rfl <;> simp at h
  · rintro ⟨h1, h2, h3⟩
    split
    · exact absurd (BitVec.eq_of_toNat_eq ‹_›) h1
    · exact absurd (BitVec.eq_of_toNat_eq ‹_›) h2
    · exact absurd (BitVec.eq_of_toNat_eq ‹_›) h3
    · rfl

theorem switchOutcome_eq (a : BitVec 8) (s : State) : switchOutcome a s =
    if s.locked = true then .locked else if a ≠ 1 ∧ a ≠ 2 ∧ a ≠ 3 then .badArgument else .done := by
  unfold switchOutcome
  simp only [← sourceOfArgument_eq_none]
  cases sourceOfArgument a <;> rfl

theorem switchEffect_current {a : BitVec 8} {s : State} {src : Source} (ha : sourceOfArgument a = some src)
    (hc : src = s.clock.current) : switchEffect a s = endSwitched src s := by
  unfold switchEffect
  rw [ha]
  exact if_pos hc

theorem switchEffect_other {a : BitVec 8} {s : State} {src : Source} (ha : sourceOfArgument a = some src)
    (hc : src ≠ s.clock.current) : switchEffect a s = requestSource src s := by
  unfold switchEffect
  rw [ha]
  exact if_neg hc

/-- A switch command moves the clock and the causes alone. -/
theorem switchEffect_frame (a : BitVec 8) (s : State) : switchEffect a s = { s with
    clock := (switchEffect a s).clock, status := { s.status with causes := (switchEffect a s).status.causes } } := by
  cases ha : sourceOfArgument a with
  | none =>
    have hnone : switchEffect a s = s := by
      unfold switchEffect
      rw [ha]
    rw [hnone]
  | some src =>
    by_cases hc : src = s.clock.current
    · rw [switchEffect_current ha hc, endSwitched_eq]
    · rw [switchEffect_other ha hc]
      rfl

theorem execClockSwitch_eq {s : State} (h : UpstreamFree s) (a : BitVec 8) :
    exec (.clockSwitch a) s = .next (commandClockSwitch a (disarm s)) :=
  congrArg Host.Outcome.next (takeUpstream_free h _)

theorem commandClockSwitch_done {a : BitVec 8} {s : State} (h : switchOutcome a s = .done) :
    commandClockSwitch a s = finishCommand 6 .done 0 (switchEffect a s) := by
  rw [commandClockSwitch, if_pos h, h]

theorem commandClockSwitch_refused {a : BitVec 8} {s : State} (h : switchOutcome a s ≠ .done) :
    commandClockSwitch a s = finishCommand 6 (switchOutcome a s) 0 s := by
  rw [commandClockSwitch, if_neg h]

theorem commandClockSwitch_frame (a : BitVec 8) (s : State) : commandClockSwitch a s = { s with
    clock := (commandClockSwitch a s).clock, answer := some (.accept [])
    status := { s.status with
      command := { code := 6, outcome := switchOutcome a s, detail := 0 }
      causes := (commandClockSwitch a s).status.causes } } := by
  by_cases h : switchOutcome a s = .done
  · rw [commandClockSwitch_done h, switchEffect_frame, h]
    rfl
  · rw [commandClockSwitch_refused h]
    rfl

/-- Settles O19, by the outcome and then by whether the source named is the current one. -/
theorem clockSwitchIsJudged : Obligations.ClockSwitchIsJudged := by
  intro s a hfree
  refine ⟨_, switchOutcome a (disarm s), execClockSwitch_eq hfree a, switchOutcome_eq a (disarm s),
    commandClockSwitch_frame a (disarm s), fun h => ?_, fun h src ha => ?_⟩
  · rw [commandClockSwitch_refused h]
    exact ⟨rfl, rfl⟩
  · have hsource : sourceOfArgument a = some src := by
      rw [← sourceOfArgument_argumentOf src, ha]
      cases src <;> rfl
    rw [commandClockSwitch_done h]
    refine ⟨fun hc => ?_, fun hc => ?_⟩
    · rw [switchEffect_current (s := disarm s) hsource hc, endSwitched_eq]
      exact ⟨rfl, qualityAfterSwitch_eq src _, fun c => causeSet_raise .clockEvent c s⟩
    · rw [switchEffect_other (s := disarm s) hsource hc]
      exact ⟨rfl, rfl⟩

end Sys2Proof.Machine
end

section
/-! SUPPORT. An accepted plan write (R114 to R117, R122): its effect at once in LOADING, its place in the change queue
in RUNNING. -/

namespace Sys2Proof.Machine

/-! ## The decision (R114) -/

/-- A plan write is judged by the plan area's own tests. -/
theorem execPlanWrite_plan {s : State} {t : WriteTxn} {off : Nat} (hfree : UpstreamFree s) (hat : At s t.addr off)
    (hoff : off < 0x10000) (haligned : t.aligned = true) :
    exec (.planWrite t) s = .next (planAreaWrite t off s) := by
  show Host.Outcome.next (takeUpstream (decideWrite t) s) = _
  rw [takeUpstream_free hfree, decideWrite, if_pos haligned, classify_plan hat hoff]

/-- A well-formed entry of a kind the lock leaves open, with room in the buffer, is judged by the mode alone. -/
theorem planAreaWrite_open {t : WriteTxn} {off : Nat} {s : State} {e : PlanEntry}
    (hform : t.len = .w4 ∧ t.enables = [15, 15, 15, 15]) (he : decodeEntry (off / 16) (quadOf t.data) = some e)
    (hlock : (s.locked && e.lockCovered) = false) (hroom : s.bufferRoom = true) : planAreaWrite t off s =
      if s.running && refusedInRunning s.plan e then respond .refuse s
      else if s.running then
        if 32 ≤ s.changes.length then respond .retry s
        else postWrite t { s with changes :=
          s.changes ++ [{ entry := BitVec.ofNat 12 (off / 16), words := quadOf t.data }] }
      else postWrite t (applyInLoading e s) := by
  unfold planAreaWrite
  rw [if_pos ((quadForm_iff t).mpr hform), he]
  dsimp only
  rw [hlock, hroom]
  rfl

/-- In LOADING it takes its effect at once (R115). -/
theorem planAreaWrite_loading {t : WriteTxn} {off : Nat} {s : State} {e : PlanEntry}
    (hform : t.len = .w4 ∧ t.enables = [15, 15, 15, 15]) (he : decodeEntry (off / 16) (quadOf t.data) = some e)
    (hlock : (s.locked && e.lockCovered) = false) (hroom : s.bufferRoom = true) (hm : s.status.mode = .loading) :
    planAreaWrite t off s = postWrite t (applyInLoading e s) := by
  rw [planAreaWrite_open hform he hlock hroom, State.running_of_loading hm]
  rfl

/-- In RUNNING it joins the change queue (R117). -/
theorem planAreaWrite_running {t : WriteTxn} {off : Nat} {s : State} {e : PlanEntry}
    (hform : t.len = .w4 ∧ t.enables = [15, 15, 15, 15]) (he : decodeEntry (off / 16) (quadOf t.data) = some e)
    (hlock : (s.locked && e.lockCovered) = false) (hroom : s.bufferRoom = true) (hm : s.status.mode = .running)
    (hkind : refusedInRunning s.plan e = false) (hqueue : s.changes.length < 32) :
    planAreaWrite t off s = postWrite t { s with changes :=
      s.changes ++ [{ entry := BitVec.ofNat 12 (off / 16), words := quadOf t.data }] } := by
  rw [planAreaWrite_open hform he hlock hroom, s.running_iff.mpr hm, hkind]
  exact if_neg (Nat.not_le.mpr hqueue)

theorem lockCovered_eq_false {e : PlanEntry} (h : (∃ i x, e = .unit i x) ∨ ∃ i x, e = .meter i x) :
    e.lockCovered = false := by
  rcases h with ⟨i, x, rfl⟩ | ⟨i, x, rfl⟩ <;> rfl

/-- In RUNNING only the week map and another interval length are refused for their kind (R114 test 3). -/
theorem refusedInRunning_eq_false {p : Plan} {e : PlanEntry} (hweek : ∀ x, e ≠ .weekMap x)
    (hheader : ∀ h, e = .header h → h.len = p.header.len) : refusedInRunning p e = false := by
  cases e
  case weekMap x => exact absurd rfl (hweek x)
  case header h => simp [refusedInRunning, hheader h rfl]
  all_goals rfl

/-! ## The effect in LOADING (R87, R90, R115, R122) -/

/-- An entry changes the table it is for, and a meter entry the meter's live fields. -/
theorem applyEntry_plan (e : PlanEntry) (s : State) : (applyEntry e s).plan = e.place s.plan := by cases e <;> rfl

theorem applyEntry_live_other {e : PlanEntry} (h : ∀ i x, e ≠ .meter i x) (s : State) :
    (applyEntry e s).live = s.live := by
  cases e
  case meter i x => exact absurd rfl (h i x)
  all_goals rfl

theorem applyEntry_live_meter (i j : MeterId) (x : MeterEntry) (s : State) :
    (applyEntry (.meter i x) s).live[j] =
      if i = j then meterLiveAfter s.plan.meters[i] x s.live[i] else s.live[j] :=
  getElem_set_fin s.live i j _

/-- What a change of L makes of the clock: the next boundary and the pending adjustment (R87, R90). -/
def lengthChange (len : Nat) (k : Clock) : Clock :=
  { k with adjust := if 2 * k.adjust.natAbs ≤ len then k.adjust else 0, nextBoundary := nextGrid len k.time }

theorem intervalLengthChanged_eq (s : State) :
    intervalLengthChanged s = { s with clock := lengthChange s.intervalSeconds s.clock } := by
  have hrange := adjustInRange_iff s.intervalSeconds s.clock.adjust
  simp only [intervalLengthChanged, recomputeBoundary, lengthChange, hrange]
  rfl

/-- An entry taken in LOADING: the table, the meter's live fields, and the clock where L changes. -/
theorem applyInLoading_eq (e : PlanEntry) (s : State) : applyInLoading e s = { s with
    plan := e.place s.plan, live := (applyEntry e s).live
    clock := if (e.place s.plan).header.len = s.plan.header.len then s.clock
      else lengthChange (e.place s.plan).header.len.seconds s.clock } := by
  obtain ⟨p, l, h⟩ := applyEntry_frame e s
  have hp : p = e.place s.plan := by rw [← applyEntry_plan, h]
  subst hp
  unfold applyInLoading
  rw [h]
  dsimp only
  split
  · rfl
  · rw [intervalLengthChanged_eq]
    rfl

/-! ### A meter's live fields (R122) -/

theorem meterLiveAfter_created {old new : MeterEntry} (ho : old.kind = .unused) (hn : new.kind ≠ .unused)
    (l : MeterLive) : meterLiveAfter old new l = { l with state := .unseen } :=
  (if_pos ho).trans (if_neg hn)

theorem meterLiveAfter_absent {old new : MeterEntry} (ho : old.kind = .unused) (hn : new.kind = .unused)
    (l : MeterLive) : meterLiveAfter old new l = l := (if_pos ho).trans (if_pos hn)

theorem meterLiveAfter_deleted {old new : MeterEntry} (ho : old.kind ≠ .unused) (hn : new.kind = .unused)
    (l : MeterLive) : meterLiveAfter old new l = MeterLive.initial := (if_neg ho).trans (if_pos hn)

theorem sameIdentity_iff (a b : MeterEntry) : sameIdentity a b = true ↔
    a.kind = b.kind ∧ a.medium = b.medium ∧ a.scale = b.scale ∧ a.digits = b.digits := by
  simp only [sameIdentity, Bool.and_eq_true, beq_iff_eq, and_assoc]

/-- A meter of another identity is reset to UNSEEN, with its mark and sums kept (R123; entry 33). -/
theorem meterLiveAfter_reset {old new : MeterEntry} (ho : old.kind ≠ .unused) (hn : new.kind ≠ .unused)
    (h : ¬ sameIdentity old new = true) (l : MeterLive) : meterLiveAfter old new l = l.reset :=
  (if_neg ho).trans ((if_neg hn).trans (if_neg h))

/-! ## The statement -/

/-- A write that finds room changes the link and the answer alone, and is posted. -/
theorem postWrite_accepted {u : State} (hroom : u.bufferRoom = true) (t : WriteTxn) :
    postWrite t u = { u with link := (postWrite t u).link, answer := some (.accept []) } ∧
      PostedTo t u.link (postWrite t u) := ⟨postWrite_room hroom t, postWrite_postedTo t hroom⟩

/-- The state after a plan write has taken effect in LOADING and been posted. -/
theorem postWrite_applyInLoading {s : State} (hroom : s.bufferRoom = true) (t : WriteTxn) (e : PlanEntry) :
    postWrite t (applyInLoading e s) = { s with
        link := (postWrite t (applyInLoading e s)).link, answer := some (.accept []), plan := e.place s.plan
        live := (applyEntry e s).live
        clock := if (e.place s.plan).header.len = s.plan.header.len then s.clock
          else lengthChange (e.place s.plan).header.len.seconds s.clock } ∧
      PostedTo t s.link (postWrite t (applyInLoading e s)) := by
  rw [applyInLoading_eq]
  refine postWrite_accepted ?_ t
  exact hroom

/-- Settles O41, by the mode. -/
theorem planWriteIsAccepted : Obligations.PlanWriteIsAccepted := by
  intro s t off a b c d q e hfree hat hoff haligned hlen henables hdata hq he hkinds hposted
  have hform : t.len = .w4 ∧ t.enables = [15, 15, 15, 15] := ⟨hlen, henables⟩
  have hroom : s.bufferRoom = true := (bufferRoom_iff s).mpr hposted
  have hquad : quadOf t.data = q := by rw [hdata, hq]; rfl
  rw [← hquad] at he ⊢
  have hlock : (s.locked && e.lockCovered) = false := by
    cases hl : s.locked
    · rfl
    · exact lockCovered_eq_false (hkinds hl)
  rw [execPlanWrite_plan hfree hat hoff haligned]
  refine ⟨fun hm => ⟨_, rfl, ?_⟩, fun hm hweek hheader hqueue => ⟨_, rfl, ?_⟩⟩
  · rw [planAreaWrite_loading hform he hlock hroom hm]
    obtain ⟨hr, hpostedTo⟩ := postWrite_applyInLoading hroom t e
    generalize postWrite t (applyInLoading e s) = r at hr hpostedTo
    have hplan : r.plan = e.place s.plan := by rw [hr]
    have hlive : r.live = (applyEntry e s).live := by rw [hr]
    have hclock : r.clock = if r.plan.header.len = s.plan.header.len then s.clock
        else lengthChange r.plan.header.len.seconds s.clock := by rw [hplan, hr]
    have hframe : r.clock =
        { s.clock with adjust := r.clock.adjust, nextBoundary := r.clock.nextBoundary } := by
      rw [hclock]
      split <;> rfl
    refine ⟨?_, hpostedTo, fun h => ?_, fun h => ?_, fun h => ?_, fun i x h => ⟨fun j hj => ?_, ?_⟩⟩
    · rw [← hframe, hclock, hplan, hlive]
      exact hr
    · rw [hclock, if_pos h]
    · rw [hclock, if_neg h]
      exact ⟨nextGrid_spec _ (IntervalLen.seconds_pos _) _, rfl⟩
    · rw [hlive, applyEntry_live_other h]
    · rw [hlive, h, applyEntry_live_meter, if_neg hj.symm]
    · rw [hlive, h, applyEntry_live_meter, if_pos rfl]
      refine ⟨fun ho hn => meterLiveAfter_absent ho hn _, fun ho hn => meterLiveAfter_created ho hn _,
        fun ho hn => meterLiveAfter_deleted ho hn _, fun hk hm hs hd => ?_, fun ho hn h => ?_⟩
      · exact meterLiveAfter_same ((sameIdentity_iff _ _).mpr ⟨hk, hm, hs, hd⟩) _
      · exact meterLiveAfter_reset ho hn (fun hsame => h ((sameIdentity_iff _ _).mp hsame)) _
  · rw [planAreaWrite_running hform he hlock hroom hm (refusedInRunning_eq_false hweek hheader) hqueue]
    refine postWrite_accepted ?_ t
    exact hroom

end Sys2Proof.Machine
end

section
/-! SUPPORT. The unit commands OPEN, CLOSE, FORCE and CANCEL, and the codes that name no command (R96 to R102, R167). -/

namespace Sys2Proof.Machine

/-! ## The command and its record (R96, R168) -/

theorem unitCommand_done (code : BitVec 8) (u : UnitId) (f : State → State) (s : State) :
    unitCommand code u .done f s = finishUnitCommand code u .done (f s) := rfl

theorem unitCommand_refused {o : CmdOutcome} (h : o ≠ .done) (code : BitVec 8) (u : UnitId) (f : State → State)
    (s : State) : unitCommand code u o f s = finishUnitCommand code u o s := by
  rw [unitCommand, if_neg h]

/-- A code other than 1 to 4 is recorded and does nothing else (R96). -/
theorem unitCmdWrite_unknown {code : BitVec 8} (h : code ≠ 1 ∧ code ≠ 2 ∧ code ≠ 3 ∧ code ≠ 4) (u : UnitId)
    (s : State) : unitCmdWrite code u s = finishUnitCommand code u .badArgument s := by
  obtain ⟨h1, h2, h3, h4⟩ := h
  unfold unitCmdWrite
  split
  · next hc => exact absurd (BitVec.eq_of_toNat_eq hc) h1
  · next hc => exact absurd (BitVec.eq_of_toNat_eq hc) h2
  · next hc => exact absurd (BitVec.eq_of_toNat_eq hc) h3
  · next hc => exact absurd (BitVec.eq_of_toNat_eq hc) h4
  · exact unitCommand_refused (by decide) code u id s

/-- A code other than 1 to 6 is recorded and does nothing else (R167). -/
theorem commandWrite_unknown {code : BitVec 8}
    (h : code ≠ 1 ∧ code ≠ 2 ∧ code ≠ 3 ∧ code ≠ 4 ∧ code ≠ 5 ∧ code ≠ 6) (a : BitVec 8) (armed : Bool)
    (s : State) : commandWrite code a armed s = finishCommand code .badArgument 0 s := by
  obtain ⟨h1, h2, h3, h4, h5, h6⟩ := h
  unfold commandWrite
  split
  · next hc => exact absurd (BitVec.eq_of_toNat_eq hc) h1
  · next hc => exact absurd (BitVec.eq_of_toNat_eq hc) h2
  · next hc => exact absurd (BitVec.eq_of_toNat_eq hc) h3
  · next hc => exact absurd (BitVec.eq_of_toNat_eq hc) h4
  · next hc => exact absurd (BitVec.eq_of_toNat_eq hc) h5
  · next hc => exact absurd (BitVec.eq_of_toNat_eq hc) h6
  · rfl

theorem execCommandBadCode_eq {s : State} (h : UpstreamFree s) (code a : BitVec 8) :
    exec (.commandBadCode code a) s = .next (commandWrite code a s.status.armed (disarm s)) :=
  congrArg Host.Outcome.next (takeUpstream_free h _)

theorem execUnitCmdBadCode_eq {s : State} (h : UpstreamFree s) (code : BitVec 8) (u : UnitId) :
    exec (.unitCmdBadCode code u) s = .next (unitCmdWrite code u (disarm s)) :=
  congrArg Host.Outcome.next (takeUpstream_free h _)

/-- Settles O56: past the clear-arm flag, an unknown code's write is its record. -/
theorem unknownCodesAreBadArguments : Obligations.UnknownCodesAreBadArguments := by
  intro s code a u hfree
  refine ⟨fun h => ?_, fun h => ?_⟩
  · rw [execCommandBadCode_eq hfree, commandWrite_unknown h]
    rfl
  · rw [execUnitCmdBadCode_eq hfree, unitCmdWrite_unknown h]
    rfl

/-! ## The four commands as they are taken -/

theorem execOpen_eq {s : State} (h : UpstreamFree s) (u : UnitId) :
    exec (.openUnit u) s = .next (unitCommand 1 u (openOutcome s u) (openEffect u) (disarm s)) :=
  congrArg Host.Outcome.next (takeUpstream_free h _)

theorem execClose_eq {s : State} (h : UpstreamFree s) (u : UnitId) :
    exec (.closeUnit u) s = .next (unitCommand 2 u (closeOutcome s u) (closeEffect u) (disarm s)) :=
  congrArg Host.Outcome.next (takeUpstream_free h _)

theorem execForce_eq {s : State} (h : UpstreamFree s) (u : UnitId) :
    exec (.forceUnit u) s = .next (unitCommand 3 u (closingOutcome s u) (forceEffect u) (disarm s)) :=
  congrArg Host.Outcome.next (takeUpstream_free h _)

theorem execCancel_eq {s : State} (h : UpstreamFree s) (u : UnitId) :
    exec (.cancelUnit u) s = .next (unitCommand 4 u (closingOutcome s u) (cancelEffect u) (disarm s)) :=
  congrArg Host.Outcome.next (takeUpstream_free h _)

/-! ## Outcomes (R97, R98) -/

theorem Plan.defined_eq_false {p : Plan} {u : UnitId} (hu : u ≠ 0) : p.defined u = false ↔ p.units[u].area = 0 := by
  simp [Plan.defined, hu]

theorem openOutcome_eq (s : State) (u : UnitId) : openOutcome s u =
    if u = 0 ∨ s.occ[u].state ≠ .vacant then .wrongState
    else if s.status.mode = .running ∧ s.plan.units[u].area = 0 then .undefinedUnit else .done := by
  unfold openOutcome
  by_cases hu : u = 0
  · rw [if_pos hu, if_pos (Or.inl hu)]
  · by_cases hv : s.occ[u].state ≠ .vacant
    · rw [if_neg hu, if_pos hv, if_pos (Or.inr hv)]
    · rw [if_neg hu, if_neg hv, if_neg (not_or.mpr ⟨hu, hv⟩)]
      simp only [Bool.and_eq_true, Bool.not_eq_true', s.running_iff, Plan.defined_eq_false hu]

theorem closeOutcome_eq (s : State) (u : UnitId) : closeOutcome s u =
    if u ≠ 0 ∧ (s.occ[u].state = .occupied ∨ (s.status.mode = .running ∧ s.occ[u].state = .opening)) then .done
    else .wrongState := by
  unfold closeOutcome
  by_cases hu : u = 0
  · rw [if_pos hu, if_neg fun h => h.1 hu]
  · rw [if_neg hu]
    cases hs : s.occ[u].state <;> simp [hu, s.running_iff]

theorem closingOutcome_eq (s : State) (u : UnitId) : closingOutcome s u =
    if u ≠ 0 ∧ s.status.mode = .running ∧ s.occ[u].state = .closing then .done else .wrongState := by
  unfold closingOutcome
  by_cases hu : u = 0
  · rw [if_pos hu, if_neg fun h => h.1 hu]
  · rw [if_neg hu]
    simp only [Bool.and_eq_true, s.running_iff, beq_iff_eq, ne_eq, hu, not_false_eq_true, true_and]

/-! ## Effects (R99 to R102) -/

theorem Plan.bound_iff (p : Plan) (u : UnitId) (m : MeterId) :
    p.bound u m = true ↔ p.meters[m].kind = .unit ∧ p.meters[m].binding = u := by
  simp [Plan.bound]

/-- `t` is `s` with a slot's record replaced by `r`, the fresh flags of the slot's meters cleared, and UNIT_CHANGED
raised where `changed` holds (R99, R100, R102, R103). -/
def GivesRecord (u : UnitId) (r : OccRecord) (changed : Prop) [Decidable changed] (s t : State) : Prop :=
  t = { s with
    occ := s.occ.set u r, live := (clearFresh u s).live
    status := { s.status with
      causes := if changed then s.status.causes ||| Cause.unitChanged.mask else s.status.causes } }

theorem clearFresh_setOcc (u : UnitId) (r : OccRecord) (s : State) : clearFresh u (setOcc u r s) =
    { s with occ := s.occ.set u r, live := (clearFresh u s).live } := by
  unfold clearFresh setOcc
  rfl

/-- The slot's command that raises no cause. -/
theorem GivesRecord.quiet {changed : Prop} [Decidable changed] (h : ¬ changed) (u : UnitId) (r : OccRecord)
    (s : State) : GivesRecord u r changed s (clearFresh u (setOcc u r s)) := by
  rw [clearFresh_setOcc, GivesRecord, if_neg h]

/-- The slot's command that raises UNIT_CHANGED. -/
theorem GivesRecord.raised {changed : Prop} [Decidable changed] (h : changed) (u : UnitId) (r : OccRecord)
    (s : State) : GivesRecord u r changed s (raise .unitChanged (clearFresh u (setOcc u r s))) := by
  rw [clearFresh_setOcc, GivesRecord, if_pos h, raise]

/-- The record OPEN gives a slot (R99). -/
def openRecord (s : State) (u : UnitId) : OccRecord :=
  { s.occ[u] with
    tenancy := s.occ[u].tenancy + 1, closeCmdAt := 0, openedOnEstimate := false, finalsForced := false
    deadline := 0, cmdSinceBoundary := true
    state := if s.status.mode = .running then .opening else .occupied
    openedAt := if s.status.mode = .running then 0 else s.clock.time
    outstanding := if s.status.mode = .running then s.plan.boundCount u else 0 }

theorem openEffect_givesRecord (u : UnitId) (s : State) :
    GivesRecord u (openRecord s u) (s.status.mode = .loading) s (openEffect u s) := by
  unfold openEffect openRecord
  by_cases hm : s.status.mode = .running
  · simp only [s.running_iff, hm, if_true]
    exact .quiet (by decide) u _ s
  · simp only [s.running_iff, hm, if_false]
    exact .raised (Decidable.byContradiction fun hl => hm (running_of_not_loading hl)) u _ s

/-- The record CLOSE gives a slot that it finds OCCUPIED or OPENING (R100). -/
def closeRecord (s : State) (u : UnitId) : OccRecord :=
  if s.status.mode = .running ∧ s.occ[u].state = .occupied then
    { s.occ[u] with
      state := .closing, closeCmdAt := s.clock.time, deadline := 0, finalsForced := false
      outstanding := s.plan.boundCount u, cmdSinceBoundary := true }
  else
    { s.occ[u] with
      state := .vacant, closeCmdAt := s.clock.time, deadline := 0, outstanding := 0, cmdSinceBoundary := true }

theorem closeEffect_givesRecord (u : UnitId) (s : State) :
    GivesRecord u (closeRecord s u) (¬ (s.status.mode = .running ∧ s.occ[u].state = .occupied)) s
      (closeEffect u s) := by
  have hcond : (s.running && s.occ[u].state == .occupied) = true ↔
      s.status.mode = .running ∧ s.occ[u].state = .occupied := by
    rw [Bool.and_eq_true, s.running_iff, beq_iff_eq]
  unfold closeEffect closeRecord
  dsimp only
  by_cases h : s.status.mode = .running ∧ s.occ[u].state = .occupied
  · rw [if_pos (hcond.mpr h), if_pos h]
    exact .quiet (not_not_intro h) u _ s
  · rw [if_neg (mt hcond.mp h), if_neg h]
    exact .raised h u _ s

/-- The record CANCEL gives a CLOSING slot (R102). -/
def cancelRecord (s : State) (u : UnitId) : OccRecord :=
  { s.occ[u] with
    state := .occupied, closeCmdAt := 0, deadline := 0, outstanding := 0, finalsForced := false
    cmdSinceBoundary := true }

theorem cancelEffect_givesRecord (u : UnitId) (s : State) :
    GivesRecord u (cancelRecord s u) True s (cancelEffect u s) := .raised trivial u _ s

theorem clearFresh_bound (u : UnitId) (s : State) (m : MeterId) : (clearFresh u s).live[m] =
    if s.plan.meters[m].kind = .unit ∧ s.plan.meters[m].binding = u then { s.live[m] with fresh := false }
    else s.live[m] := by
  simp only [clearFresh_live, Plan.bound_iff]

/-- A unit command whose effect is to give the slot a record: with any outcome but DONE it is recorded and does
nothing else (R96). -/
theorem unitCommand_givesRecord (code : BitVec 8) {u : UnitId} (o : CmdOutcome) {f : State → State} {r : OccRecord}
    {changed : Prop} [Decidable changed] {s t : State} (hf : GivesRecord u r changed s (f s))
    (ht : t = unitCommand code u o f s) :
    t = { s with
      answer := some (.accept []), occ := t.occ, live := t.live
      status := { s.status with
        unitCommand := { code := code, slot := u, outcome := o }
        causes := if o = .done ∧ changed then s.status.causes ||| Cause.unitChanged.mask else s.status.causes } } ∧
    (o ≠ .done → t.occ = s.occ ∧ t.live = s.live) ∧
    (o = .done → t.occ = s.occ.set u r ∧ ∀ m : MeterId, t.live[m] =
      if s.plan.meters[m].kind = .unit ∧ s.plan.meters[m].binding = u then { s.live[m] with fresh := false }
      else s.live[m]) := by
  subst ht
  by_cases ho : o = .done
  · subst ho
    rw [unitCommand_done, show f s = _ from hf]
    simp only [true_and]
    exact ⟨rfl, fun h => absurd rfl h, fun _ => ⟨rfl, clearFresh_bound u s⟩⟩
  · rw [unitCommand_refused ho]
    simp only [ho, false_and, if_false]
    exact ⟨rfl, fun _ => ⟨rfl, rfl⟩, fun h => h.elim⟩

/-- Settles O57: the outcome by R97's tests, the effect by the mode. -/
theorem openAdmitsATenant : Obligations.OpenAdmitsATenant := by
  intro s u hfree
  exact ⟨_, openOutcome s u, execOpen_eq hfree u, openOutcome_eq s u,
    unitCommand_givesRecord 1 _ (openEffect_givesRecord u (disarm s)) rfl⟩

/-- Settles O58: the outcome by the slot's state, the effect by whether an OCCUPIED slot is left in RUNNING. -/
theorem closeEndsATenancy : Obligations.CloseEndsATenancy := by
  intro s u hfree
  exact ⟨_, closeOutcome s u, execClose_eq hfree u, closeOutcome_eq s u,
    unitCommand_givesRecord 2 _ (closeEffect_givesRecord u (disarm s)) rfl⟩

/-- Settles O59: FORCE and CANCEL are judged alike, and a command not answered DONE is recorded alone. -/
theorem forceAndCancelActOnAClosingSlot : Obligations.ForceAndCancelActOnAClosingSlot := by
  intro s u hfree
  have houtcome := closingOutcome_eq s u
  rw [execForce_eq hfree, execCancel_eq hfree]
  refine ⟨fun hu hm hc => ?_, fun h => ?_, fun hu hm hc => ?_, fun h => ?_⟩
  · rw [houtcome, if_pos ⟨hu, hm, hc⟩]
    rfl
  · rw [houtcome, if_neg h]
    rfl
  · rw [houtcome, if_pos ⟨hu, hm, hc⟩]
    obtain ⟨hstate, _, heffect⟩ := unitCommand_givesRecord 4 .done (cancelEffect_givesRecord u (disarm s)) rfl
    obtain ⟨hocc, hlive⟩ := heffect rfl
    rw [hocc] at hstate
    exact ⟨_, rfl, hstate, hlive⟩
  · rw [houtcome, if_neg h]
    rfl

end Sys2Proof.Machine
end

section
/-! SUPPORT. A CLOSED slot stays CLOSED but for its FINAL statement, CLEAR and power-on reset (R95, R98, R111, R139,
R165, R174): most events leave the occupancy records as they are, and the others move no slot out of CLOSED. -/

namespace Sys2Proof.Machine

/-- The slot, where it is CLOSED in `s`, is CLOSED in `t`. -/
def ClosedStays (u : UnitId) (s t : State) : Prop := s.occ[u].state = .closed → t.occ[u].state = .closed

theorem ClosedStays.refl (u : UnitId) (s : State) : ClosedStays u s s := id

theorem ClosedStays.trans {u : UnitId} {s t r : State} (h : ClosedStays u s t) (k : ClosedStays u t r) :
    ClosedStays u s r := k ∘ h

theorem ClosedStays.of_occ {u : UnitId} {s t : State} (h : t.occ = s.occ) : ClosedStays u s t := by
  unfold ClosedStays
  rw [h]
  exact id

theorem ClosedStays.of_state {u : UnitId} {s t : State} (h : t.occ[u].state = s.occ[u].state) :
    ClosedStays u s t := h.trans

/-! ## Events that leave the occupancy records as they are -/

@[simp] theorem raiseIf_occ (b : Bool) (c : Cause) (s : State) : (raiseIf b c s).occ = s.occ := by cases b <;> rfl

/-! ### The port -/

@[simp] theorem grant_occ (s : State) : (grant s).occ = s.occ := by
  obtain ⟨l, h⟩ := grant_frame s
  rw [h]

@[simp] theorem postWrite_occ (t : WriteTxn) (s : State) : (postWrite t s).occ = s.occ := by
  obtain ⟨l, a, h⟩ := postWrite_frame t s
  rw [h]

theorem endDrain_occ (s : State) : (endDrain s).occ = s.occ := by
  obtain ⟨l, h⟩ := endDrain_frame s
  rw [h]

theorem discardDrain_occ (s : State) : (discardDrain s).occ = s.occ := by
  obtain ⟨l, st, h⟩ := discardDrain_frame s
  rw [h]

theorem endRead_occ (r : Response) (s : State) : (endRead r s).occ = s.occ := by
  obtain ⟨l, a, h⟩ := endRead_frame r s
  rw [h]

theorem forwardRead_occ (t : ReadTxn) (s : State) : (forwardRead t s).occ = s.occ := by
  unfold forwardRead
  split
  · rfl
  · rw [grant_occ, requestRead_occ]

theorem decideRead_occ (t : ReadTxn) (s : State) : (decideRead t s).occ = s.occ := by
  unfold decideRead
  split
  · split
    · rfl
    · rfl
    · unfold ringRead
      split
      · rfl
      · exact forwardRead_occ t s
    · exact forwardRead_occ t s
    · exact forwardRead_occ t s
    · exact forwardRead_occ t s
  · rfl

/-! ### The channels -/

@[simp] theorem choose_occ (s : State) : (choose s).occ = s.occ := by
  obtain ⟨o, st, h⟩ := choose_frame s
  rw [h]

@[simp] theorem handWork_occ (c : Channel) (s : State) : (handWork c s).occ = s.occ := by
  obtain ⟨o, st, h⟩ := handWork_frame c s
  rw [h]

@[simp] theorem afterRecord_occ (c : Channel) (s : State) : (afterRecord c s).occ = s.occ := by
  obtain ⟨o, st, h⟩ := afterRecord_frame c s
  rw [h]

theorem exportRecords_occ (n : Nat) (s : State) : (exportRecords n s).occ = s.occ := by
  obtain ⟨o, st, h⟩ := exportRecords_frame n s
  rw [h]

@[simp] theorem failRecord_occ (s : State) : (failRecord s).occ = s.occ := by
  obtain ⟨o, sn, st, h⟩ := failRecord_frame s
  rw [h]

theorem cancelActive_occ (s : State) : (cancelActive s).occ = s.occ := by
  obtain ⟨l, o, sn, h⟩ := cancelActive_frame s
  rw [h]

theorem timeoutAccess_occ (s : State) : (timeoutAccess s).occ = s.occ := by
  unfold timeoutAccess
  split
  · exact discardDrain_occ s
  · exact endRead_occ .refuse s
  · rw [grant_occ, freePort_occ, failRecord_occ]
  · rw [grant_occ, freePort_occ, failRecord_occ]
  · rw [grant_occ, freePort_occ]
  · rfl

theorem linkPeriod_occ (s : State) : (linkPeriod s).occ = s.occ := by
  unfold linkPeriod
  split
  · rfl
  · split
    · rfl
    · exact timeoutAccess_occ s

theorem resetBus_occ (s : State) : (resetBus s).occ = s.occ := by
  have dropped : (dropRead s).occ = s.occ := by
    unfold dropRead
    split <;> rfl
  have cancelled : (cancelAndChoose (dropRead s)).occ = (dropRead s).occ := by
    unfold cancelAndChoose
    split
    · rw [choose_occ, cancelActive_occ]
    · rfl
  exact cancelled.trans dropped

/-! ### The clock, but for its boundaries -/

@[simp] theorem completeSwitch_occ (s : State) : (completeSwitch s).occ = s.occ := by
  unfold completeSwitch
  split <;> rfl

@[simp] theorem timeoutSwitch_occ (s : State) : (timeoutSwitch s).occ = s.occ := by
  unfold timeoutSwitch
  split <;> rfl

@[simp] theorem settleCrystal_occ (s : State) : (settleCrystal s).occ = s.occ := by
  unfold settleCrystal
  split <;> rfl

@[simp] theorem failSource_occ (src : Source) (s : State) : (failSource src s).occ = s.occ := by
  unfold failSource
  split
  · split <;> rfl
  · rfl

@[simp] theorem limitPeriod_occ (s : State) : (limitPeriod s).occ = s.occ := by
  unfold limitPeriod
  dsimp only
  split
  · split
    · exact timeoutSwitch_occ _
    · rfl
  · rfl

@[simp] theorem monitorPeriod_occ (src : Source) (limit : Nat) (s : State) :
    (monitorPeriod src limit s).occ = s.occ := by
  unfold monitorPeriod
  split
  · rfl
  · split
    · split
      · exact failSource_occ src s
      · rfl
    · rfl

theorem commandClockSwitch_occ (a : BitVec 8) (s : State) : (commandClockSwitch a s).occ = s.occ := by
  rw [commandClockSwitch_frame]

/-! ## Unit commands (R98) -/

/-- OPEN is not answered DONE for a CLOSED slot. -/
theorem openOutcome_closed {s : State} {u : UnitId} (h : s.occ[u].state = .closed) : openOutcome s u ≠ .done := by
  rw [openOutcome_eq, if_pos (.inr (by rw [h]; decide))]
  decide

/-- CLOSE is not answered DONE for a CLOSED slot. -/
theorem closeOutcome_closed {s : State} {u : UnitId} (h : s.occ[u].state = .closed) : closeOutcome s u ≠ .done := by
  rw [closeOutcome_eq, h, if_neg (by simp)]
  decide

/-- FORCE and CANCEL are not answered DONE for a CLOSED slot. -/
theorem closingOutcome_closed {s : State} {u : UnitId} (h : s.occ[u].state = .closed) :
    closingOutcome s u ≠ .done := by
  rw [closingOutcome_eq, h, if_neg (by simp)]
  decide

/-- A unit command that replaces the record of one slot, and is not answered DONE for a CLOSED one. -/
theorem unitCommand_closedStays (u : UnitId) (code : BitVec 8) {v : UnitId} {o : CmdOutcome} {f : State → State}
    {r : OccRecord} {s : State} (hclosed : s.occ[v].state = .closed → o ≠ .done)
    (hocc : (f s).occ = s.occ.set v r) : ClosedStays u s (unitCommand code v o f s) := by
  by_cases ho : o = .done
  · subst ho
    intro hu
    rw [unitCommand_done]
    show (f s).occ[u].state = .closed
    rw [hocc, getElem_set_fin]
    split
    · rename_i hvu
      subst hvu
      exact absurd rfl (hclosed hu)
    · exact hu
  · rw [unitCommand_refused ho]
    exact .of_occ rfl

theorem unitCmdWrite_closedStays (u : UnitId) (code : BitVec 8) (v : UnitId) (s : State) :
    ClosedStays u s (unitCmdWrite code v s) := by
  unfold unitCmdWrite
  split
  · exact unitCommand_closedStays u code openOutcome_closed (congrArg State.occ (openEffect_givesRecord v s))
  · exact unitCommand_closedStays u code closeOutcome_closed (congrArg State.occ (closeEffect_givesRecord v s))
  · exact unitCommand_closedStays u code closingOutcome_closed (setOcc_occ v _ s)
  · exact unitCommand_closedStays u code closingOutcome_closed (congrArg State.occ (cancelEffect_givesRecord v s))
  · rw [unitCommand_refused (by decide)]
    exact .of_occ rfl

/-! ## Plan changes (R105) -/

/-- A change moves the outstanding-readings counts of slots, and no slot's state. -/
theorem applyChange_state (e : PlanEntry) (s : State) (u : UnitId) :
    (applyChange e s).occ[u].state = s.occ[u].state := by
  cases e
  case meter i x =>
    rw [applyChange_meter_occ]
    split <;> rfl
  all_goals rfl

theorem handleChange_closedStays (u : UnitId) (s : State) (c : Change) : ClosedStays u s (handleChange s c) := by
  unfold handleChange
  split
  · exact .refl u s
  · split
    · exact .of_state (applyChange_state _ s u)
    · exact .of_occ rfl

/-- A CLOSED slot that no event of a list moves is not moved by the whole list. -/
theorem foldl_closedStays {α : Type} {u : UnitId} {f : State → α → State} (h : ∀ s a, ClosedStays u s (f s a))
    (l : List α) : ∀ s, ClosedStays u s (l.foldl f s) := by
  induction l with
  | nil => exact ClosedStays.refl u
  | cons a l ih => exact fun s => (h s a).trans (ih _)

theorem handleChanges_closedStays (u : UnitId) (s : State) : ClosedStays u s (handleChanges s) :=
  foldl_closedStays (handleChange_closedStays u) s.changes { s with changes := [] }

/-! ## The close -/

/-- The decisions at the boundary leave a CLOSED slot CLOSED (R108, R109). -/
theorem decideSlot_closed {b : Time} {snap : Occupancy} {held : Bool} {r : OccRecord} (h : r.state = .closed) :
    (decideSlot b snap held r).state = .closed := by
  have hstate : (advanceDeadline snap r).state = .closed := (advanceDeadline_state snap r).trans h
  unfold decideSlot
  simp only [hstate]

theorem stageOccupancy_occ (c : Close) (s : State) : (stageOccupancy c s).occ = decideAll c s := by
  unfold stageOccupancy
  dsimp only
  split
  · rw [handWork_occ, raiseIf_occ, raiseIf_occ]
  · rw [raiseIf_occ, raiseIf_occ]

theorem stageOccupancy_closedStays (u : UnitId) (c : Close) (s : State) : ClosedStays u s (stageOccupancy c s) := by
  intro hu
  rw [stageOccupancy_occ, decideAll_get]
  split
  · exact hu
  · exact decideSlot_closed hu

theorem stagePeriod_occ (c : Close) (s : State) : (stagePeriod c s).occ = s.occ := by
  obtain ⟨sn, a, p, o, st, h⟩ := stagePeriod_frame c s
  rw [h]

theorem stageSummary_occ (c : Close) (s : State) : (stageSummary c s).occ = s.occ := by
  obtain ⟨o, st, h⟩ := stageSummary_frame c s
  rw [h]

theorem stageEffect_closedStays (u : UnitId) (st : Stage) (c : Close) (s : State) :
    ClosedStays u s (stageEffect st c s) := by
  cases st with
  | direct => unfold stageEffect stageDirect; exact .of_occ rfl
  | zones => unfold stageEffect stageZones; exact .of_occ rfl
  | residual => unfold stageEffect stageResidual; exact .of_occ rfl
  | price => unfold stageEffect stagePrice; exact .of_occ rfl
  | occupancy => exact stageOccupancy_closedStays u c s
  | period => exact .of_occ (stagePeriod_occ c s)
  | summary => exact .of_occ (stageSummary_occ c s)
  | changes => exact handleChanges_closedStays u { s with close := some { c with next := .finish } }
  | finish => unfold stageEffect stageFinish; exact .of_occ rfl

theorem runStage_closedStays (u : UnitId) (st : Stage) (s : State) : ClosedStays u s (runStage st s) := by
  unfold runStage
  split
  · split
    · exact stageEffect_closedStays u st _ s
    · exact .refl u s
  · exact .refl u s

theorem finishClose_closedStays (u : UnitId) (s : State) : ClosedStays u s (finishClose s) :=
  foldl_closedStays (fun t st => runStage_closedStays u st t) stageOrder s

/-- Stage 1 clears the command-since-boundary flags, and moves no slot. -/
theorem beginClose_closedStays (u : UnitId) (b : Time) (s : State) : ClosedStays u s (beginClose b s) := by
  refine .of_state ?_
  unfold beginClose
  dsimp only
  rw [raiseIf_occ, getElem_map_fin]

/-! ## The billing clock -/

theorem boundaryEvent_closedStays (u : UnitId) (s : State) : ClosedStays u s (boundaryEvent s) :=
  (finishClose_closedStays u s).trans (beginClose_closedStays u s.clock.time (finishClose s))

theorem passSecond_closedStays (u : UnitId) (s : State) : ClosedStays u s (passSecond s) := by
  unfold passSecond
  dsimp only
  split
  · split
    · exact boundaryEvent_closedStays u
        { s with clock := { s.clock with time := s.clock.time + 1, phase := 0 } }
    · exact .of_occ rfl
  · exact .of_occ rfl

theorem tickSecond_closedStays (u : UnitId) (s : State) : ClosedStays u s (tickSecond s) := by
  rw [tickSecond_eq]
  split
  · exact (passSecond_closedStays u s).trans (.of_occ (completeSwitch_occ _))
  · exact passSecond_closedStays u s

theorem secondEdge_closedStays (u : UnitId) (s : State) : ClosedStays u s (secondEdge s) :=
  tickSecond_closedStays u { s with clock := s.clock.atEdge }

theorem pulse_closedStays (u : UnitId) (s : State) : ClosedStays u s (pulse s) := by
  rw [pulse_eq]
  split
  · exact tickSecond_closedStays u { s with clock := { s.clock.pulsed with trefGuard := none } }
  · exact .of_occ rfl

theorem sourcePeriod_closedStays (u : UnitId) (s : State) : ClosedStays u s (sourcePeriod s) := by
  unfold sourcePeriod
  split
  · exact .of_occ rfl
  · exact secondEdge_closedStays u s

theorem ircSourcePeriod_closedStays (u : UnitId) (s : State) : ClosedStays u s (ircSourcePeriod s) := by
  unfold ircSourcePeriod
  split
  · exact sourcePeriod_closedStays u s
  · exact .of_occ rfl
  · exact .refl u s

theorem ircPeriod_closedStays (u : UnitId) (s : State) : ClosedStays u s (ircPeriod s) :=
  (ircSourcePeriod_closedStays u s).trans
    (.of_occ ((monitorPeriod_occ _ _ _).trans ((monitorPeriod_occ _ _ _).trans (limitPeriod_occ _))))

theorem crystalPeriod_closedStays (u : UnitId) (s : State) : ClosedStays u s (crystalPeriod s) := by
  unfold crystalPeriod
  dsimp only
  split
  · exact sourcePeriod_closedStays u s
  · split
    · split
      · split
        · exact .of_occ rfl
        · exact .of_occ (settleCrystal_occ _)
      · exact .of_occ rfl
    · exact .refl u s

theorem idleStep_closedStays (u : UnitId) (s : State) : ClosedStays u s (idleStep s) := by
  unfold idleStep oscillatorPeriod
  split
  · exact ircPeriod_closedStays u { s with idle := s.idle + 1 }
  · exact crystalPeriod_closedStays u { s with idle := s.idle + 1 }
  · exact .of_occ (linkPeriod_occ { s with idle := s.idle + 1 })

/-! ## The reading processor -/

/-- A reading moves the outstanding-readings count of a slot, and no slot's state (R40, R103). -/
theorem occAfterReading_state (s : State) (r : QueuedReading) (m : MeterId) (u : UnitId) :
    (occAfterReading s r m)[u].state = s.occ[u].state := by
  unfold occAfterReading
  split
  · rw [getElem_set_fin]
    split
    · rename_i hu
      rw [← hu]
    · rfl
  · rfl

theorem takeRecord_closedStays (u : UnitId) (r : QueuedReading) (s : State) : ClosedStays u s (takeRecord r s) := by
  rcases Nat.lt_or_ge 511 (readingMeter r.words) with hbig | hsmall
  · rw [takeRecord_noMeter hbig, tally_frame]
    exact .of_occ rfl
  · rw [takeRecord_meter (m := ⟨_, Nat.lt_succ_of_le hsmall⟩) rfl, tally_frame]
    exact .of_state (occAfterReading_state s r _ u)

/-! ## CLEAR (R174) -/

/-- The accounts after power-on reset and CLEAR: every figure of every slot is at its initial value. -/
theorem initialAccounts_get (u : UnitId) (m : Medium) :
    ((Vector.replicate 256 (Both.mk Figures.initial Figures.initial))[u]).get m = Figures.initial := by
  rw [getElem_replicate_fin]
  cases m <;> rfl

/-- CLEAR answered DONE returns mode, plan, records, snapshots and accounts to their initial values. -/
theorem commandClear_cleared {armed : Bool} {s : State} (h : clearOutcome armed s = .done) :
    Cleared (commandClear armed s) := by
  unfold commandClear
  rw [if_pos h]
  exact ⟨rfl, rfl, rfl, getElem_replicate_fin none, initialAccounts_get⟩

theorem powerOn_cleared (pins : Pins) (idle : Nat) (pending : List Instr) :
    Cleared { State.powerOn pins with idle := idle, pending := pending } :=
  ⟨rfl, rfl, rfl, getElem_replicate_fin none, initialAccounts_get⟩

/-- A slot 1..255 is VACANT in a state that CLEAR or power-on reset has left. -/
theorem Cleared.vacant {t : State} (h : Cleared t) {u : UnitId} (hu : u ≠ 0) : t.occ[u].state = .vacant := by
  obtain ⟨_, _, hocc, _⟩ := h
  rw [hocc, occInitial_get, if_neg hu]
  rfl

/-- The slot, where it is CLOSED in `s`, is CLOSED in `t`, or `t` is as CLEAR or power-on reset leaves it. -/
def ClosedOrCleared (u : UnitId) (s t : State) : Prop := ClosedStays u s t ∨ Cleared t

theorem commandWrite_closedOrCleared (u : UnitId) (code argument : BitVec 8) (armed : Bool) (s : State) :
    ClosedOrCleared u s (commandWrite code argument armed s) := by
  unfold commandWrite
  split
  · refine .inl (.of_occ ?_)
    unfold commandStart
    dsimp only
    split <;> rfl
  · exact .inl (.of_occ rfl)
  · by_cases h : clearOutcome armed s = .done
    · exact .inr (commandClear_cleared h)
    · refine .inl (.of_occ ?_)
      rw [commandClear, if_neg h]
      rfl
  · refine .inl (.of_occ ?_)
    unfold commandPeriodClose
    split <;> rfl
  · refine .inl (.of_occ ?_)
    unfold commandPeriodResend
    split
    · exact handWork_occ .p s
    · rfl
  · exact .inl (.of_occ (commandClockSwitch_occ argument s))
  · exact .inl (.of_occ rfl)

/-! ## Upstream transactions -/

theorem writeTime_occ (v : Word) (s : State) : (writeTime v s).occ = s.occ := by
  unfold writeTime
  split <;> rfl

theorem writeTimeAdjust_occ (v : Word) (s : State) : (writeTimeAdjust v s).occ = s.occ := by
  unfold writeTimeAdjust
  split <;> rfl

theorem writeExport_occ (v : Word) (s : State) : (writeExport v s).occ = s.occ := by
  unfold writeExport
  split
  · exact exportRecords_occ _ s
  · rfl

theorem statusWrite_closedOrCleared (u : UnitId) (i : Nat) (v : Word) (s : State) :
    ClosedOrCleared u s (statusWrite i v s) := by
  unfold statusWrite
  dsimp only
  split
  · exact .inl (.of_occ rfl)
  · exact .inl (.of_occ rfl)
  · exact commandWrite_closedOrCleared u _ _ _ (disarm s)
  · exact .inl (unitCmdWrite_closedStays u _ _ (disarm s))
  · exact .inl (.of_occ (writeTime_occ v (disarm s)))
  · exact .inl (.of_occ (writeTimeAdjust_occ v (disarm s)))
  · exact .inl (.of_occ (writeExport_occ v (disarm s)))
  · exact .inl (.of_occ rfl)

theorem dropRingWrite_occ (t : WriteTxn) (off : Nat) (s : State) : (dropRingWrite t off s).occ = s.occ := by
  unfold dropRingWrite captureWrite
  split
  · split
    · rfl
    · split
      · rfl
      · rw [raiseIf_occ, postWrite_occ]
  · rfl

theorem planAreaWrite_occ (t : WriteTxn) (off : Nat) (s : State) : (planAreaWrite t off s).occ = s.occ := by
  unfold planAreaWrite
  split
  · split
    · rfl
    · split
      · rfl
      · split
        · rfl
        · split
          · rfl
          · split
            · split
              · rfl
              · rw [postWrite_occ]
            · rw [postWrite_occ, applyInLoading_eq]
  · rfl

theorem ringWrite_occ (t : WriteTxn) (off : Nat) (s : State) : (ringWrite t off s).occ = s.occ := by
  unfold ringWrite
  split
  · rfl
  · split
    · rfl
    · exact postWrite_occ t s

theorem decideWrite_closedOrCleared (u : UnitId) (t : WriteTxn) (s : State) :
    ClosedOrCleared u s (decideWrite t s) := by
  unfold decideWrite
  split
  · split
    · exact .inl (.of_occ (postWrite_occ t s))
    · exact .inl (.of_occ (planAreaWrite_occ t _ s))
    · exact .inl (.of_occ (dropRingWrite_occ t _ s))
    · unfold statusBlockWrite
      split
      · exact statusWrite_closedOrCleared u _ _ s
      · exact .inl (.of_occ rfl)
    · exact .inl (.of_occ rfl)
    · exact .inl (.of_occ (ringWrite_occ t _ s))
  · split <;> exact .inl (.of_occ rfl)

theorem decideTxn_closedOrCleared (u : UnitId) (t : Txn) (s : State) : ClosedOrCleared u s (decideTxn t s) := by
  cases t with
  | write w => exact decideWrite_closedOrCleared u w s
  | read r => exact .inl (.of_occ (decideRead_occ r s))

/-! ## Every command but RECORD_COMPLETE -/

/-- The command is answered, and a slot that it finds CLOSED stays so, or all is cleared. -/
def KeepsClosed (u : UnitId) (s : State) (r : Host.Outcome State Fault Refusal) : Prop :=
  ∃ t, r = .next t ∧ ClosedOrCleared u s t

theorem KeepsClosed.next {u : UnitId} {s t : State} (h : ClosedStays u s t) : KeepsClosed u s (.next t) :=
  ⟨t, rfl, .inl h⟩

theorem KeepsClosed.next_occ {u : UnitId} {s t : State} (h : t.occ = s.occ) : KeepsClosed u s (.next t) :=
  .next (.of_occ h)

/-- An upstream transaction that is taken, or has no effect. -/
theorem KeepsClosed.upstream {u : UnitId} {f : State → State} {s : State} (h : ClosedOrCleared u s (f s)) :
    KeepsClosed u s (.next (takeUpstream f s)) := by
  by_cases hfree : UpstreamFree s
  · rw [takeUpstream_free hfree]
    exact ⟨_, rfl, h⟩
  · rw [takeUpstream_busy hfree]
    exact .next_occ rfl

theorem giveCommand_keepsClosed (u : UnitId) (code argument : BitVec 8) (s : State) :
    KeepsClosed u s (.next (giveCommand code argument s)) :=
  .upstream (commandWrite_closedOrCleared u code argument _ (disarm s))

theorem takeUnitCommand_keepsClosed (u : UnitId) (code : BitVec 8) (v : UnitId) (s : State) :
    KeepsClosed u s (.next (takeUpstream (fun s => unitCmdWrite code v (disarm s)) s)) :=
  .upstream (.inl (unitCmdWrite_closedStays u code v (disarm s)))

theorem takeWrite_keepsClosed (u : UnitId) (t : WriteTxn) (s : State) :
    KeepsClosed u s (.next (takeUpstream (decideWrite t) s)) := .upstream (decideWrite_closedOrCleared u t s)

theorem takeTxn_keepsClosed (u : UnitId) (t : Txn) (s : State) :
    KeepsClosed u s (.next (takeUpstream (decideTxn t) s)) := .upstream (decideTxn_closedOrCleared u t s)

theorem statusCommand_keepsClosed (u : UnitId) (i : Nat) (v : Word) (s : State) :
    KeepsClosed u s (.next (takeUpstream (statusWrite i v) s)) := .upstream (statusWrite_closedOrCleared u i v s)

theorem execBrst_keepsClosed (u : UnitId) (level : Bool) (s : State) : KeepsClosed u s (execBrst s level) := by
  refine .next_occ ?_
  split
  · rw [resetBus_occ, setBrst_occ]
  · exact setBrst_occ level s

theorem execXtalSettled_keepsClosed (u : UnitId) (s : State) : KeepsClosed u s (execXtalSettled s) := by
  refine .next_occ ?_
  rw [settleCrystal_occ]
  split <;> rfl

theorem execReadingTake_keepsClosed (u : UnitId) (s : State) : KeepsClosed u s (execReadingTake s) := by
  unfold execReadingTake
  split
  · exact .next_occ rfl
  · rename_i r rest _
    refine .next ?_
    split
    · exact .refl u s
    · exact takeRecord_closedStays u r { s with capture := { s.capture with queue := rest } }

theorem execRecordStart_keepsClosed (u : UnitId) (s : State) : KeepsClosed u s (execRecordStart s) := by
  refine .next_occ ?_
  split
  · rw [grant_occ, requestWriteOut_occ, advanceRecord_occ]
  · rfl

theorem execFirstBurstAccepted_keepsClosed (u : UnitId) (s : State) :
    KeepsClosed u s (execFirstBurstAccepted s) := by
  unfold execFirstBurstAccepted
  split
  · exact .next_occ (by rw [grant_occ, freePort_occ, requestWriteOut_occ, advanceRecord_occ])
  · exact .next_occ rfl

theorem execRecordAbandoned_keepsClosed (u : UnitId) (s : State) : KeepsClosed u s (execRecordAbandoned s) := by
  have failed : (grant (freePort (failRecord s))).occ = s.occ := by rw [grant_occ, freePort_occ, failRecord_occ]
  unfold execRecordAbandoned
  split
  · exact .next_occ failed
  · exact .next_occ failed
  · exact .next_occ rfl

theorem execDrainWriteAccepted_keepsClosed (u : UnitId) (s : State) :
    KeepsClosed u s (execDrainWriteAccepted s) := by
  unfold execDrainWriteAccepted
  split
  · exact .next_occ (endDrain_occ s)
  · exact .next_occ rfl

theorem execDrainWriteDiscarded_keepsClosed (u : UnitId) (s : State) :
    KeepsClosed u s (execDrainWriteDiscarded s) := by
  unfold execDrainWriteDiscarded
  split
  · exact .next_occ (discardDrain_occ s)
  · exact .next_occ rfl

theorem execReadAnswer_keepsClosed (u : UnitId) (a : MemAnswer) (s : State) :
    KeepsClosed u s (execReadAnswer a s) := by
  unfold execReadAnswer
  split
  · exact .next_occ (endRead_occ _ s)
  · exact .next_occ rfl

theorem execDisregardedMemoryAnswer_keepsClosed (u : UnitId) (s : State) :
    KeepsClosed u s (execDisregardedMemoryAnswer s) := by
  unfold execDisregardedMemoryAnswer
  split
  · exact .next_occ (by rw [grant_occ, freePort_occ])
  · exact .next_occ rfl

theorem exec_keepsClosed (u : UnitId) {i : Instr} (hi : i ≠ .recordComplete) (s : State) :
    KeepsClosed u s (exec i s) := by
  cases i with
  | powerOnReset => exact ⟨_, rfl, .inr (powerOn_cleared s.pins s.idle s.pending)⟩
  | brst level => exact execBrst_keepsClosed u level s
  | planLockChange level => exact .next_occ rfl
  | trefPulse dt => exact .next (pulse_closedStays u { s with clock := s.clock.pass dt })
  | secondEdge => exact .next (secondEdge_closedStays u s)
  | xtalSettled => exact execXtalSettled_keepsClosed u s
  | switchTimeout => exact .next_occ (timeoutSwitch_occ s)
  | clockMonitorFail source => exact .next_occ (failSource_occ source s)
  | stageDirect => exact .next (runStage_closedStays u .direct s)
  | stageZones => exact .next (runStage_closedStays u .zones s)
  | stageResidual => exact .next (runStage_closedStays u .residual s)
  | stagePrice => exact .next (runStage_closedStays u .price s)
  | stageOccupancy => exact .next (runStage_closedStays u .occupancy s)
  | stagePeriod => exact .next (runStage_closedStays u .period s)
  | stageSummary => exact .next (runStage_closedStays u .summary s)
  | stageChanges => exact .next (runStage_closedStays u .changes s)
  | stageEnd => exact .next (runStage_closedStays u .finish s)
  | dropWrite t => exact takeWrite_keepsClosed u t s
  | planWrite t => exact takeWrite_keepsClosed u t s
  | postedWrite t => exact takeWrite_keepsClosed u t s
  | forwardedRead t => exact takeTxn_keepsClosed u (.read t) s
  | statementRingAccess t => exact takeTxn_keepsClosed u t s
  | misalignedTransaction t => exact takeTxn_keepsClosed u t s
  | accountWindowWrite t => exact takeWrite_keepsClosed u t s
  | statusWriteRefused t => exact takeWrite_keepsClosed u t s
  | causeWrite value => exact statusCommand_keepsClosed u 2 value s
  | maskWrite value => exact statusCommand_keepsClosed u 3 value s
  | timeWrite value => exact statusCommand_keepsClosed u 6 value s
  | timeAdjustWrite value => exact statusCommand_keepsClosed u 7 value s
  | exportWrite count => exact statusCommand_keepsClosed u 11 count s
  | start => exact giveCommand_keepsClosed u 1 0 s
  | clearArm => exact giveCommand_keepsClosed u 2 0 s
  | clear => exact giveCommand_keepsClosed u 3 0 s
  | periodClose => exact giveCommand_keepsClosed u 4 0 s
  | periodResend => exact giveCommand_keepsClosed u 5 0 s
  | clockSwitch argument => exact giveCommand_keepsClosed u 6 argument s
  | commandBadCode code argument => exact giveCommand_keepsClosed u code argument s
  | openUnit slot => exact takeUnitCommand_keepsClosed u 1 slot s
  | closeUnit slot => exact takeUnitCommand_keepsClosed u 2 slot s
  | forceUnit slot => exact takeUnitCommand_keepsClosed u 3 slot s
  | cancelUnit slot => exact takeUnitCommand_keepsClosed u 4 slot s
  | unitCmdBadCode code slot => exact takeUnitCommand_keepsClosed u code slot s
  | readingTake => exact execReadingTake_keepsClosed u s
  | drainWriteAccepted => exact execDrainWriteAccepted_keepsClosed u s
  | drainWriteDiscarded => exact execDrainWriteDiscarded_keepsClosed u s
  | readAnswer answer => exact execReadAnswer_keepsClosed u answer s
  | memoryTimeout => exact .next_occ (timeoutAccess_occ s)
  | recordStart => exact execRecordStart_keepsClosed u s
  | firstBurstAccepted => exact execFirstBurstAccepted_keepsClosed u s
  | recordComplete => exact absurd rfl hi
  | recordAbandoned => exact execRecordAbandoned_keepsClosed u s
  | disregardedMemoryAnswer => exact execDisregardedMemoryAnswer_keepsClosed u s

/-! ## RECORD_COMPLETE (R111, R139) -/

/-- The snapshot held for the slot is of its FINAL statement. -/
def FinalHeld (u : UnitId) (s : State) : Prop := ∃ x, s.snapshots[u] = some x ∧ x.final = true

theorem releaseItem_occ_final {v : UnitId} {s : State} (hf : FinalHeld v s) (hc : s.occ[v].state = .closed) :
    (releaseItem (.statement v) s).occ = s.occ.set v { s.occ[v] with state := .vacant } := by
  obtain ⟨x, hx, hfinal⟩ := hf
  unfold releaseItem
  dsimp only
  rw [hx]
  dsimp only
  rw [if_pos ⟨hfinal, hc⟩, raise_occ, setOcc_occ]

theorem releaseItem_occ_other {v : UnitId} {s : State} (h : ¬ (FinalHeld v s ∧ s.occ[v].state = .closed)) :
    (releaseItem (.statement v) s).occ = s.occ := by
  unfold releaseItem
  dsimp only
  split
  · rename_i x hx
    rw [if_neg fun ⟨hfinal, hclosed⟩ => h ⟨⟨x, hx, hfinal⟩, hclosed⟩]
  · rfl

/-- The release of an item moves the slot whose FINAL statement it is, and that to VACANT. -/
theorem releaseItem_closed (u : UnitId) (it : Item) (s : State) : ClosedStays u s (releaseItem it s) ∨
    ((releaseItem it s).occ[u].state = .vacant ∧ it = .statement u ∧ FinalHeld u s) := by
  cases it with
  | summary => exact .inl (.of_occ rfl)
  | trailer => exact .inl (.of_occ rfl)
  | statement v =>
    by_cases h : FinalHeld v s ∧ s.occ[v].state = .closed
    · obtain ⟨hfinal, hclosed⟩ := h
      have hocc := releaseItem_occ_final hfinal hclosed
      by_cases hvu : v = u
      · subst hvu
        rw [hocc, getElem_set_fin, if_pos rfl]
        exact .inr ⟨rfl, rfl, hfinal⟩
      · refine .inl (.of_state ?_)
        rw [hocc, getElem_set_fin, if_neg hvu]
    · exact .inl (.of_occ (releaseItem_occ_other h))

/-- RECORD_COMPLETE moves a CLOSED slot where the record is that of its FINAL statement, and that to VACANT. -/
theorem completeRecord_closed (u : UnitId) (c : Channel) (s : State) : ClosedStays u s (completeRecord c s) ∨
    ((completeRecord c s).occ[u].state = .vacant ∧ (∃ r, s.out.record = some r ∧ r.item = .statement u) ∧
      FinalHeld u s) := by
  unfold completeRecord
  dsimp only
  rw [ClosedStays, choose_occ, afterRecord_occ]
  split
  · rename_i r hr
    rcases releaseItem_closed u r.item { s with out := { s.out.setChan c { s.out.chan c with outcome := .complete } with
      w := s.out.w + 1, u := s.out.u + 1, seq := s.out.seq + 1, record := none } } with h | ⟨hvacant, hitem, hfinal⟩
    · exact .inl h
    · exact .inr ⟨hvacant, ⟨r, hr, hitem⟩, hfinal⟩
  · exact .inl id

theorem execRecordComplete_closed (u : UnitId) (s : State) : ∃ t, execRecordComplete s = .next t ∧
    (ClosedStays u s t ∨ (t.occ[u].state = .vacant ∧ (∃ r, s.out.record = some r ∧ r.item = .statement u) ∧
      FinalHeld u s)) := by
  unfold execRecordComplete
  split
  · rename_i c _ _
    refine ⟨_, rfl, ?_⟩
    rw [ClosedStays, grant_occ, freePort_occ]
    exact completeRecord_closed u c s
  · exact ⟨s, rfl, .inl (.refl u s)⟩

/-- Settles O11: an idle step and every command but RECORD_COMPLETE leave the slot CLOSED, or clear everything. -/
theorem closedUnitsLeaveOnlyByTheirFinalStatement : Obligations.ClosedUnitsLeaveOnlyByTheirFinalStatement := by
  intro s t u hu hclosed hstep hleft
  unfold step at hstep
  split at hstep
  · cases hstep
    exact absurd (idleStep_closedStays u s hclosed) hleft
  · rename_i i rest hpending
    by_cases hi : i = .recordComplete
    · subst hi
      obtain ⟨t', ht', h⟩ := execRecordComplete_closed u { s with pending := rest }
      cases ht'.symm.trans hstep
      rcases h with hstays | ⟨hvacant, hrecord, hfinal⟩
      · exact absurd (hstays hclosed) hleft
      · exact ⟨hvacant, .inr ⟨by rw [hpending]; rfl, hrecord, hfinal⟩⟩
    · obtain ⟨t', ht', h⟩ := exec_keepsClosed u hi { s with pending := rest }
      cases ht'.symm.trans hstep
      rcases h with hstays | hcleared
      · exact absurd (hstays hclosed) hleft
      · exact ⟨hcleared.vacant hu, .inl hcleared⟩

end Sys2Proof.Machine
end

section
/-! SUPPORT. The consistency tests of stage 9 and of START (R119, R120, R170): each test the model computes is the
condition that R120 states, and each check answers the first test that holds. -/

namespace Sys2Proof.Machine

/-! ## The conditions the tests ask for -/

/-- A number names one table index at most. -/
theorem exists_zone_iff {z : ZoneId} {v : Nat} (hz : z.val = v) (P : ZoneId → Prop) :
    (∃ y : ZoneId, y.val = v ∧ P y) ↔ P z :=
  ⟨fun ⟨_, hy, h⟩ => Fin.ext (hy.trans hz.symm) ▸ h, fun h => ⟨z, hz, h⟩⟩

theorem no_zone {v : Nat} (h : finOf 32 v = none) (z : ZoneId) : z.val ≠ v := by
  rintro rfl
  rw [finOf_val] at h
  cases h

theorem Plan.undefinedSlot_iff (p : Plan) (u : UnitId) : p.undefinedSlot u = true ↔ Undefined p u := by
  simp only [Plan.undefinedSlot, Undefined, Bool.and_eq_true, bne_iff_ne, beq_iff_eq]

/-- A slot is defined where it is slot 0 or has floor area (R4). -/
theorem not_undefined_iff (p : Plan) (u : UnitId) : ¬ Undefined p u ↔ u = 0 ∨ p.units[u].area ≠ 0 := by
  simp only [Undefined, Classical.not_and_iff_not_or_not, Classical.not_not, ne_eq]

theorem Plan.hasZoneMeter_iff (p : Plan) (z : ZoneId) : p.hasZoneMeter z = true ↔ Metered p z := by
  simp [Plan.hasZoneMeter, Metered]

theorem Plan.unitMeterBound_iff (p : Plan) (u : UnitId) :
    p.unitMeterBound u = true ↔ ∃ m : MeterId, p.meters[m].kind = .unit ∧ p.meters[m].binding = u := by
  simp only [Plan.unitMeterBound, List.any_eq_true, List.mem_finRange, true_and, Plan.bound_iff]

theorem Plan.keyNames_iff (p : Plan) (u : UnitId) :
    p.keyNames u = true ↔ ∃ (k : KeyId) (z : ZoneId), p.keys[k].zone = some z ∧ p.keys[k].unit = u := by
  simp [Plan.keyNames, Option.isSome_iff_exists]

theorem Plan.memberByArea_iff (p : Plan) (z : ZoneId) (u : UnitId) : p.memberByArea z u = true ↔
    ∃ k : KeyId, p.keys[k].zone = some z ∧ p.keys[k].unit = u ∧ p.keys[k].factor = 0 := by
  simp [Plan.memberByArea, and_assoc]

theorem Plan.keyDuplicated_iff (p : Plan) (k : KeyId) (z : ZoneId) (u : UnitId) : p.keyDuplicated k z u = true ↔
    ∃ j : KeyId, j ≠ k ∧ p.keys[j].zone = some z ∧ p.keys[j].unit = u := by
  simp [Plan.keyDuplicated, and_assoc]

theorem Plan.zoneMeterOtherMedium_iff (p : Plan) (z : ZoneId) (m : Medium) : p.zoneMeterOtherMedium z m = true ↔
    ∃ j : MeterId, p.meters[j].kind = .zone ∧ p.meters[j].binding.val = z.val ∧ p.meters[j].medium ≠ m := by
  simp [Plan.zoneMeterOtherMedium, and_assoc]

/-- The binding names one zone at most: what holds of that zone, and what holds where it names none. -/
theorem Plan.zoneMediumDiffers_iff (p : Plan) (e : MeterEntry) : p.zoneMediumDiffers e = true ↔
    e.kind = .zone ∧ ∃ z : ZoneId, z.val = e.binding.val ∧ e.medium ≠ p.zoneMedium z := by
  unfold Plan.zoneMediumDiffers
  split
  · rename_i z hz
    rw [Bool.and_eq_true, beq_iff_eq, bne_iff_ne, exists_zone_iff (finOf_eq_some.mp hz)]
  · rename_i hnone
    exact ⟨fun h => (Bool.false_ne_true h).elim, fun ⟨_, z, hz, _⟩ => (no_zone hnone z hz).elim⟩

theorem leavesZoneEmpty_iff (q : Plan) (old : MeterEntry) : leavesZoneEmpty q old = true ↔
    old.kind = .zone ∧ ∃ z : ZoneId, z.val = old.binding.val ∧ z.val < 30 ∧ q.zones[z].enable = true ∧
      ¬ Metered q z := by
  unfold leavesZoneEmpty
  split
  · rename_i z hz
    rw [exists_zone_iff (finOf_eq_some.mp hz), Bool.and_eq_true, Bool.and_eq_true, Bool.and_eq_true, beq_iff_eq,
      decide_eq_true_eq, Bool.not_eq_true', ← Bool.not_eq_true, Plan.hasZoneMeter_iff, and_assoc, and_assoc]
  · rename_i hnone
    exact ⟨fun h => (Bool.false_ne_true h).elim, fun ⟨_, z, hz, _⟩ => (no_zone hnone z hz).elim⟩

theorem Plan.zoneEmpty_iff (p : Plan) (z : ZoneId) :
    p.zoneEmpty z = true ↔ weight (p.members z) = 0 ∨ (z.val < 30 ∧ ¬ Metered p z) := by
  simp only [Plan.zoneEmpty, Plan.zoneWeight, Bool.or_eq_true, beq_iff_eq, Bool.and_eq_true, decide_eq_true_eq,
    Bool.not_eq_true', ← Bool.not_eq_true, Plan.hasZoneMeter_iff]

/-- A zone has members where a key names it (R16). -/
theorem Plan.members_isEmpty_iff (p : Plan) (z : ZoneId) :
    (!(p.members z).isEmpty) = true ↔ ∃ k : KeyId, p.keys[k].zone = some z := by
  rw [Bool.not_eq_true', List.isEmpty_eq_false_iff_exists_mem]
  constructor
  · rintro ⟨m, hm⟩
    exact ⟨m.key, (Plan.mem_members.mp hm).1⟩
  · rintro ⟨k, hk⟩
    exact ⟨⟨k, p.keys[k].unit, p.factor p.keys[k]⟩, Plan.mem_members.mpr ⟨hk, rfl, rfl⟩⟩

theorem leavesWeightless_iff (q : Plan) (old new : KeyEntry) : leavesWeightless q old new = true ↔
    ∃ z : ZoneId, old.zone = some z ∧ new.zone ≠ some z ∧ q.zones[z].enable = true ∧ weight (q.members z) = 0 := by
  unfold leavesWeightless
  split
  · rename_i z hz
    rw [Bool.and_eq_true, Bool.and_eq_true, bne_iff_ne, beq_iff_eq, Plan.zoneWeight, hz, and_assoc]
    constructor
    · rintro ⟨hne, hrest⟩
      exact ⟨z, rfl, hne.symm, hrest⟩
    · rintro ⟨y, hy, hne, hrest⟩
      cases hy
      exact ⟨hne.symm, hrest⟩
  · rename_i hz
    rw [hz]
    exact ⟨fun h => (Bool.false_ne_true h).elim, fun ⟨_, h, _⟩ => nomatch h⟩

/-! ## First tests -/

/-- The first of the tests is decided by one branch, the others by the rest. -/
theorem FirstOf.branch {code : CmdOutcome} {holds b : Prop} [Decidable b] {rest : List (CmdOutcome × Prop)}
    {o : Option CmdOutcome} (hb : b ↔ holds) (hrest : FirstOf rest o) :
    FirstOf ((code, holds) :: rest) (if b then some code else o) := by
  by_cases h : b
  · rw [if_pos h]
    exact .inl ⟨hb.mp h, rfl⟩
  · rw [if_neg h]
    exact .inr ⟨fun k => h (hb.mpr k), hrest⟩

/-- A test that does not hold is passed over. -/
theorem FirstOf.skip {code : CmdOutcome} {holds : Prop} {rest : List (CmdOutcome × Prop)} {o : Option CmdOutcome}
    (h : ¬ holds) (hrest : FirstOf rest o) : FirstOf ((code, holds) :: rest) o := .inr ⟨h, hrest⟩

/-- None of the tests holds exactly where there is no first one. -/
theorem firstOf_none_iff {ts : List (CmdOutcome × Prop)} : FirstOf ts none ↔ ∀ x ∈ ts, ¬ x.2 := by
  induction ts with
  | nil => simp [FirstOf]
  | cons x ts ih => simp [FirstOf, ih]

/-- None of the tests holds exactly where no code is that of a first one. -/
theorem no_firstOf_iff {ts : List (CmdOutcome × Prop)} : (∀ code, ¬ FirstOf ts (some code)) ↔ ∀ x ∈ ts, ¬ x.2 := by
  induction ts with
  | nil => simp [FirstOf]
  | cons x ts ih =>
    rw [List.forall_mem_cons, ← ih]
    constructor
    · intro h
      have hx : ¬ x.2 := fun hx => h x.1 (.inl ⟨hx, rfl⟩)
      exact ⟨hx, fun code hc => h code (.inr ⟨hx, hc⟩)⟩
    · rintro ⟨hx, h⟩ code (⟨hx', -⟩ | ⟨-, hc⟩)
      · exact hx hx'
      · exact h code hc

/-! ## Stage 9 (R120) -/

theorem checkEntry_unit (s : State) (i : UnitId) (e : UnitEntry) :
    FirstOf (unitTests s i e) (checkEntry s (.unit i e)) := by
  show FirstOf _ (checkUnit s { s.plan with units := s.plan.units.set i e } i e)
  unfold checkUnit unitTests
  by_cases harea : s.plan.units[i].area = e.area
  · rw [if_pos harea]
    refine .skip ?_ (.skip ?_ (.skip (fun ⟨hne, _⟩ => hne harea) rfl))
    · rintro ⟨_, hzero, hne, _⟩
      exact hne (harea.trans hzero)
    · rintro ⟨_, hzero, hne, _⟩
      exact hne (harea.trans hzero)
  · rw [if_neg harea]
    have hold (hzero : e.area = 0) : s.plan.units[i].area ≠ 0 := fun h => harea (h.trans hzero.symm)
    refine .branch ?_ (.branch ?_ (.branch ?_ rfl))
    · exact ⟨fun ⟨hi, hz, ho⟩ => ⟨hi, hz, hold hz, ho⟩, fun ⟨hi, hz, _, ho⟩ => ⟨hi, hz, ho⟩⟩
    · rw [Bool.or_eq_true, Plan.unitMeterBound_iff, Plan.keyNames_iff]
      exact ⟨fun ⟨hi, hz, ho⟩ => ⟨hi, hz, hold hz, ho⟩, fun ⟨hi, hz, _, ho⟩ => ⟨hi, hz, ho⟩⟩
    · simp only [List.any_eq_true, List.mem_finRange, true_and, Bool.and_eq_true, beq_iff_eq,
        Plan.memberByArea_iff, Plan.zoneWeight, and_assoc, ne_eq, harea, not_false_eq_true]

theorem checkEntry_meter (s : State) (i : MeterId) (e : MeterEntry) :
    FirstOf (meterTests s i e) (checkEntry s (.meter i e)) :=
  .branch (by rw [Plan.undefinedSlot_iff])
    (.branch (s.plan.zoneMediumDiffers_iff e) (.branch (leavesZoneEmpty_iff _ s.plan.meters[i]) rfl))

theorem checkEntry_zone (s : State) (z : ZoneId) (e : ZoneEntry) :
    FirstOf (zoneTests s z e) (checkEntry s (.zone z e)) := by
  refine .branch ?_ (.branch ?_ rfl)
  · rw [Bool.or_eq_true, Bool.and_eq_true, Bool.and_eq_true, Plan.members_isEmpty_iff,
      Plan.zoneMeterOtherMedium_iff, Bool.not_eq_true', decide_eq_true_eq]
  · rw [Bool.and_eq_true, Plan.zoneEmpty_iff]
    rfl

theorem checkEntry_key (s : State) (k : KeyId) (e : KeyEntry) :
    FirstOf (keyTests s k e) (checkEntry s (.key k e)) := by
  show FirstOf _ (checkKey s { s.plan with keys := s.plan.keys.set k e } k e)
  unfold checkKey keyTests
  cases hzone : e.zone with
  | none =>
    refine .skip (by simp) (.skip (by simp) (.skip (by simp) (.skip (by simp) (.branch ?_ rfl))))
    rw [leavesWeightless_iff, hzone]
    simp
  | some z =>
    refine .branch ?_ (.branch ?_ (.branch ?_ (.branch ?_ (.branch ?_ rfl))))
    · rw [Plan.undefinedSlot_iff]
      simp
    · simp
    · rw [Plan.keyDuplicated_iff]
      simp
    · simp
    · rw [Bool.or_eq_true, leavesWeightless_iff, hzone]
      simp [Plan.zoneWeight]

/-! ## START (R170) -/

/-- `o` is the first of the tests that holds, with the entry number `n`, or none. -/
def FirstAt (n : Nat) (ts : List (CmdOutcome × Prop)) (o : Option (CmdOutcome × Nat)) : Prop :=
  ∃ c, FirstOf ts c ∧ o = c.map (·, n)

theorem FirstAt.empty (n : Nat) : FirstAt n [] none := ⟨none, rfl, rfl⟩

theorem FirstAt.branch {n : Nat} {code : CmdOutcome} {holds b : Prop} [Decidable b]
    {rest : List (CmdOutcome × Prop)} {o : Option (CmdOutcome × Nat)} (hb : b ↔ holds) (hrest : FirstAt n rest o) :
    FirstAt n ((code, holds) :: rest) (if b then some (code, n) else o) := by
  obtain ⟨c, hc, rfl⟩ := hrest
  refine ⟨_, .branch hb hc, ?_⟩
  split <;> rfl

theorem FirstAt.iff {n k : Nat} {code : CmdOutcome} {ts : List (CmdOutcome × Prop)}
    {o : Option (CmdOutcome × Nat)} (h : FirstAt n ts o) :
    o = some (code, k) ↔ k = n ∧ FirstOf ts (some code) := by
  obtain ⟨c, hc, rfl⟩ := h
  constructor
  · intro he
    obtain ⟨code', rfl, he⟩ := Option.map_eq_some_iff.mp he
    cases he
    exact ⟨rfl, hc⟩
  · rintro ⟨rfl, hcode⟩
    rw [hc.unique hcode]
    rfl

theorem startMeter_first (p : Plan) (m : MeterId) : FirstAt (512 + m.val) (startMeterTests p m) (startMeter p m) :=
  .branch (by rw [Plan.undefinedSlot_iff]) (.branch (p.zoneMediumDiffers_iff _) (.empty _))

theorem startZone_first (p : Plan) (z : ZoneId) : FirstAt (1024 + z.val) (startZoneTests p z) (startZone p z) :=
  .branch .rfl (.branch (by rw [Bool.and_eq_true, Plan.zoneEmpty_iff]) (.empty _))

theorem startKey_first (p : Plan) (k : KeyId) : FirstAt (2048 + k.val) (startKeyTests p k) (startKey p k) := by
  unfold startKey startKeyTests
  cases hzone : p.keys[k].zone with
  | none => exact ⟨none, .skip (by simp) (.skip (by simp) (.skip (by simp) rfl)), rfl⟩
  | some z =>
    refine .branch ?_ (.branch ?_ (.branch ?_ (.empty _)))
    · rw [Plan.undefinedSlot_iff]
      simp
    · simp
    · rw [Plan.keyDuplicated_iff]
      simp

/-! ## The failing entries of a plan (R170) -/

/-- The entries that fail at START, each with its code, in ascending entry number. -/
def failures (p : Plan) : List (CmdOutcome × Nat) :=
  (List.finRange 512).filterMap (startMeter p) ++
    ((List.finRange 32).filterMap (startZone p) ++ (List.finRange 2048).filterMap (startKey p))

/-- START answers the first failing entry. -/
theorem startFailure_eq (p : Plan) : startFailure p = (failures p).head? := by
  simp only [startFailure, failures, List.head?_append, List.head?_filterMap]

theorem mem_failures {p : Plan} {code : CmdOutcome} {n : Nat} : (code, n) ∈ failures p ↔ StartFails p n code := by
  simp only [failures, StartFails, List.mem_append, List.mem_filterMap, List.mem_finRange, true_and,
    (startMeter_first p _).iff, (startZone_first p _).iff, (startKey_first p _).iff]

/-- A run of entries numbered upwards from `base` lists its failures in order, with numbers of the run. -/
theorem numbered_ascending {n base : Nat} {ts : Fin n → List (CmdOutcome × Prop)}
    {f : Fin n → Option (CmdOutcome × Nat)} (h : ∀ i, FirstAt (base + i.val) (ts i) (f i)) :
    ((List.finRange n).filterMap f).Pairwise (·.2 < ·.2) ∧
      ∀ x ∈ (List.finRange n).filterMap f, base ≤ x.2 ∧ x.2 < base + n := by
  have number {i : Fin n} {x : CmdOutcome × Nat} (hx : f i = some x) : x.2 = base + i.val := ((h i).iff.mp hx).1
  refine ⟨(List.pairwise_lt_finRange n).filterMap f fun i j hij x hx y hy => ?_, fun x hx => ?_⟩
  · rw [number hx, number hy]
    exact Nat.add_lt_add_left hij base
  · obtain ⟨i, _, hi⟩ := List.mem_filterMap.mp hx
    rw [number hi]
    exact ⟨Nat.le_add_right _ _, Nat.add_lt_add_left i.isLt base⟩

theorem failures_ascending (p : Plan) : (failures p).Pairwise (·.2 < ·.2) := by
  obtain ⟨hmeters, meterRange⟩ := numbered_ascending (startMeter_first p)
  obtain ⟨hzones, zoneRange⟩ := numbered_ascending (startZone_first p)
  obtain ⟨hkeys, keyRange⟩ := numbered_ascending (startKey_first p)
  refine List.pairwise_append.mpr ⟨hmeters, List.pairwise_append.mpr ⟨hzones, hkeys, fun x hx y hy => ?_⟩,
    fun x hx y hy => ?_⟩
  · have := zoneRange x hx
    have := keyRange y hy
    omega
  · have := meterRange x hx
    rcases List.mem_append.mp hy with hy | hy
    · have := zoneRange y hy
      omega
    · have := keyRange y hy
      omega

/-- The head of an ascending list is its member with the lowest number. -/
theorem head?_eq_some_iff_lowest {l : List (CmdOutcome × Nat)} (h : l.Pairwise (·.2 < ·.2)) {x : CmdOutcome × Nat} :
    l.head? = some x ↔ x ∈ l ∧ ∀ y ∈ l, ¬ y.2 < x.2 := by
  cases l with
  | nil => simp
  | cons a l =>
    obtain ⟨ha, -⟩ := List.pairwise_cons.mp h
    constructor
    · rintro ⟨rfl⟩
      refine ⟨List.mem_cons_self, fun y hy => ?_⟩
      rcases List.mem_cons.mp hy with rfl | hy
      · exact Nat.lt_irrefl _
      · exact Nat.not_lt.mpr (Nat.le_of_lt (ha y hy))
    · rintro ⟨hx, hlow⟩
      rcases List.mem_cons.mp hx with rfl | hx
      · rfl
      · exact absurd (ha x hx) (hlow a List.mem_cons_self)

/-- No entry fails exactly where none of START's tests holds of any entry. -/
theorem no_startFails_iff (p : Plan) : (∀ n code, ¬ StartFails p n code) ↔
    (∀ m, ∀ x ∈ startMeterTests p m, ¬ x.2) ∧ (∀ z, ∀ x ∈ startZoneTests p z, ¬ x.2) ∧
      ∀ k, ∀ x ∈ startKeyTests p k, ¬ x.2 := by
  simp only [← no_firstOf_iff, StartFails]
  constructor
  · intro h
    exact ⟨fun m code hm => h _ code (.inl ⟨m, rfl, hm⟩), fun z code hz => h _ code (.inr (.inl ⟨z, rfl, hz⟩)),
      fun k code hk => h _ code (.inr (.inr ⟨k, rfl, hk⟩))⟩
  · rintro ⟨hm, hz, hk⟩ n code (⟨m, -, h⟩ | ⟨z, -, h⟩ | ⟨k, -, h⟩)
    · exact hm m code h
    · exact hz z code h
    · exact hk k code h

/-- The plan meets the six conditions of R119 exactly where none of its entries fails. -/
theorem planConsistent_iff (p : Plan) : PlanConsistent p ↔ ∀ n code, ¬ StartFails p n code := by
  rw [no_startFails_iff]
  simp only [startMeterTests, startZoneTests, startKeyTests, List.forall_mem_cons, List.not_mem_nil, false_implies,
    implies_true, and_true, not_and, not_exists, not_undefined_iff, Classical.not_not, Nat.not_lt, not_or]
  constructor
  · intro h
    refine ⟨fun m => ⟨h.unitMeters m, fun hk z hz => h.zoneMeters m z hk hz.symm⟩,
      fun z => ⟨h.zoneSize z, fun he => ⟨h.zoneWeight z he, h.zoneMetered z he⟩⟩, fun k => ⟨?_, ?_, ?_⟩⟩
    · intro hk
      obtain ⟨z, hz⟩ := Option.ne_none_iff_exists'.mp hk
      exact h.keyUnits k z hz
    · intro z hz
      rw [h.keyZones k z hz]
      decide
    · exact fun z j hk hjk hj => h.keysDiffer j k z hjk hj hk
  · rintro ⟨hmeters, hzones, hkeys⟩
    exact {
      unitMeters := fun m => (hmeters m).1
      zoneMeters := fun m z hk hz => (hmeters m).2 hk z hz.symm
      zoneSize := fun z => (hzones z).1
      zoneWeight := fun z he => ((hzones z).2 he).1
      zoneMetered := fun z he => ((hzones z).2 he).2
      keyUnits := fun k z hz => (hkeys k).1 (Option.ne_none_iff_exists'.mpr ⟨z, hz⟩)
      keyZones := fun k z hz => Bool.of_not_eq_false ((hkeys k).2.1 z hz)
      keysDiffer := fun j k z hjk hj hk => (hkeys k).2.2 z j hk hjk hj }

/-- Settles O54: the failing entries in a list, ascending, of which START takes the head. -/
theorem startChecksTheWholePlan : Obligations.StartChecksTheWholePlan := by
  intro p
  rw [startFailure_eq]
  refine ⟨?_, fun code n => ?_⟩
  · rw [List.head?_eq_none_iff, List.eq_nil_iff_forall_not_mem, planConsistent_iff]
    simp only [Prod.forall, mem_failures]
    exact forall_comm
  · rw [head?_eq_some_iff_lowest (failures_ascending p), mem_failures]
    simp only [Prod.forall, mem_failures]
    exact and_congr_right fun _ => ⟨fun h k other hlt hk => h other k hk hlt, fun h other k hk hlt => h k other hlt hk⟩

end Sys2Proof.Machine
end

section
/-! SUPPORT. A change that passes the tests of R120 keeps the plan within the six conditions of R119: kind by kind, each
condition that the entry can touch is the failure of one test, and the others stand. -/

namespace Sys2Proof.Machine

/-- What holds of the entry written and of every other entry holds of the table after the write. -/
theorem getElem_set_induction {α : Type} {n : Nat} {v : Vector α n} {i : Fin n} {x : α} {P : Fin n → α → Prop}
    (hnew : P i x) (hold : ∀ j, i ≠ j → P j v[j]) (j : Fin n) : P j (v.set i x)[j] := by
  rw [getElem_set_fin]
  split
  · rename_i hij
    exact hij ▸ hnew
  · rename_i hij
    exact hold j hij

/-! ## What the members of a zone depend on (R16, R17) -/

theorem Plan.members_congr {p q : Plan} {z : ZoneId}
    (hzone : ∀ k : KeyId, q.keys[k].zone = some z ↔ p.keys[k].zone = some z)
    (hkey : ∀ k : KeyId, p.keys[k].zone = some z →
      q.keys[k].unit = p.keys[k].unit ∧ q.factor q.keys[k] = p.factor p.keys[k]) : q.members z = p.members z := by
  unfold Plan.members
  refine congrArg (List.filterMap · _) (funext fun k => ?_)
  by_cases hz : p.keys[k].zone = some z
  · obtain ⟨hunit, hfactor⟩ := hkey k hz
    rw [if_pos ((hzone k).mpr hz), if_pos hz, hunit, hfactor]
  · rw [if_neg (fun h => hz ((hzone k).mp h)), if_neg hz]

/-- There are as many members as keys that name the zone. -/
theorem Plan.members_length (p : Plan) (z : ZoneId) :
    (p.members z).length = (List.finRange 2048).countP fun k : KeyId => decide (p.keys[k].zone = some z) := by
  rw [List.countP_eq_length_filter, ← Plan.members_keys, List.length_map]

theorem Plan.members_length_le {p q : Plan} {z : ZoneId}
    (h : ∀ k : KeyId, q.keys[k].zone = some z → p.keys[k].zone = some z) :
    (q.members z).length ≤ (p.members z).length := by
  rw [Plan.members_length, Plan.members_length]
  exact List.countP_mono_left fun k _ hk => decide_eq_true (h k (of_decide_eq_true hk))

/-- A unit entry changes a zone's members only where a member goes by the area that changes. -/
theorem Plan.members_setUnit {p : Plan} {i : UnitId} {x : UnitEntry} {z : ZoneId}
    (h : ∀ k : KeyId, p.keys[k].zone = some z → p.keys[k].unit = i → p.keys[k].factor = 0 →
      x.area = p.units[i].area) : ({ p with units := p.units.set i x } : Plan).members z = p.members z := by
  refine Plan.members_congr (fun k => .rfl) fun k hk => ⟨rfl, ?_⟩
  rw [Plan.factor_eq, Plan.factor_eq]
  split
  · rename_i hzero
    show ((p.units.set i x)[p.keys[k].unit].area).toNat = _
    rw [getElem_set_fin]
    split
    · rename_i hi
      rw [h k hk hi.symm hzero, hi]
    · rfl
  · rfl

/-- A key entry changes the members of the zone it leaves and of the zone it comes to. -/
theorem Plan.members_setKey {p : Plan} {k : KeyId} {x : KeyEntry} {z : ZoneId} (hold : p.keys[k].zone ≠ some z)
    (hnew : x.zone ≠ some z) : ({ p with keys := p.keys.set k x } : Plan).members z = p.members z := by
  refine Plan.members_congr (fun j => ?_) fun j => ?_
  · exact getElem_set_induction (P := fun (j : KeyId) (y : KeyEntry) => y.zone = some z ↔ p.keys[j].zone = some z)
      (iff_of_false hnew hold) (fun _ _ => .rfl) j
  · exact getElem_set_induction
      (P := fun (j : KeyId) (y : KeyEntry) => p.keys[j].zone = some z →
        y.unit = p.keys[j].unit ∧ p.factor y = p.factor p.keys[j])
      (fun hk => absurd hk hold) (fun _ _ _ => ⟨rfl, rfl⟩) j

/-- The medium of a common zone stands in its entry; that of a residual zone is fixed (R13). -/
theorem Plan.zoneMedium_congr {p q : Plan} {z : ZoneId} (h : z.val < 30 → q.zones[z].medium = p.zones[z].medium) :
    q.zoneMedium z = p.zoneMedium z := by
  unfold Plan.zoneMedium
  split
  · rfl
  · split
    · rfl
    · have := z.isLt
      exact h (by omega)

theorem Plan.zoneMedium_common {p : Plan} {z : ZoneId} (h : z.val < 30) : p.zoneMedium z = p.zones[z].medium := by
  unfold Plan.zoneMedium
  rw [if_neg (by omega), if_neg (by omega)]

/-! ## Kind by kind -/

/-- The conditions speak of unit, meter, zone and key entries alone. -/
theorem PlanConsistent.of_tables {p q : Plan} (h : PlanConsistent p) (hunits : q.units = p.units)
    (hmeters : q.meters = p.meters) (hzones : q.zones = p.zones) (hkeys : q.keys = p.keys) : PlanConsistent q := by
  cases p
  cases q
  cases hunits
  cases hmeters
  cases hzones
  cases hkeys
  exact ⟨h.unitMeters, h.zoneMeters, h.zoneSize, h.zoneWeight, h.zoneMetered, h.keyUnits, h.keyZones, h.keysDiffer⟩

/-- A slot that a meter or key names stays defined under a unit entry that is not UNIT_UNDEFINED. -/
theorem defined_setUnit {p : Plan} {i u : UnitId} {x : UnitEntry} (hold : u = 0 ∨ p.units[u].area ≠ 0)
    (hpass : ¬ (i ≠ 0 ∧ x.area = 0 ∧ p.units[i].area ≠ 0 ∧ u = i)) :
    u = 0 ∨ (p.units.set i x)[u].area ≠ 0 := by
  rw [getElem_set_fin]
  split
  · rename_i hi
    subst hi
    rcases hold with hzero | harea
    · exact .inl hzero
    · by_cases hi0 : i = 0
      · exact .inl hi0
      · exact .inr fun hx => hpass ⟨hi0, hx, harea, rfl⟩
  · exact hold

/-- A unit entry can undefine a slot that meters or keys name (UNIT_UNDEFINED) and take the weight of an enabled zone
whose member goes by the area (ZONE_EMPTY). -/
theorem unitEntry_keepsConsistent {s : State} {i : UnitId} {x : UnitEntry} (h : PlanConsistent s.plan)
    (hpass : checkEntry s (.unit i x) = none) :
    PlanConsistent { s.plan with units := s.plan.units.set i x } := by
  have htests := checkEntry_unit s i x
  rw [hpass, firstOf_none_iff] at htests
  simp only [unitTests, List.forall_mem_cons, List.not_mem_nil, false_implies, implies_true, and_true] at htests
  obtain ⟨-, hundefined, hempty⟩ := htests
  exact {
    unitMeters := fun m hk => defined_setUnit (h.unitMeters m hk) fun ⟨hi, hx, harea, hb⟩ =>
      hundefined ⟨hi, hx, harea, .inl ⟨m, hk, hb⟩⟩
    zoneMeters := h.zoneMeters
    zoneSize := fun z => by
      refine Nat.le_trans (Plan.members_length_le ?_) (h.zoneSize z)
      exact fun _ => id
    zoneWeight := fun z he hw => by
      have hsame : ({ s.plan with units := s.plan.units.set i x } : Plan).members z = s.plan.members z := by
        refine Plan.members_setUnit fun k hz hu hf => ?_
        refine Classical.byContradiction fun hne => ?_
        exact hempty ⟨Ne.symm hne, z, he, ⟨k, hz, hu, hf⟩, hw⟩
      exact h.zoneWeight z he ((congrArg weight hsame).symm.trans hw)
    zoneMetered := h.zoneMetered
    keyUnits := fun k z hz => defined_setUnit (h.keyUnits k z hz) fun ⟨hi, hx, harea, hu⟩ =>
      hundefined ⟨hi, hx, harea, .inr ⟨k, z, hz, hu⟩⟩
    keyZones := h.keyZones
    keysDiffer := h.keysDiffer }

/-- A meter entry can name an undefined slot, differ from its zone in medium, and take the last ZONE meter of an enabled
zone. -/
theorem meterEntry_keepsConsistent {s : State} {i : MeterId} {x : MeterEntry} (h : PlanConsistent s.plan)
    (hpass : checkEntry s (.meter i x) = none) :
    PlanConsistent { s.plan with meters := s.plan.meters.set i x } := by
  have htests := checkEntry_meter s i x
  rw [hpass, firstOf_none_iff] at htests
  simp only [meterTests, List.forall_mem_cons, List.not_mem_nil, false_implies, implies_true, and_true] at htests
  obtain ⟨hundefined, hmedium, hempty⟩ := htests
  exact {
    unitMeters := getElem_set_induction
      (P := fun _ (e : MeterEntry) => e.kind = .unit → e.binding = 0 ∨ s.plan.units[e.binding].area ≠ 0)
      (fun hk => (not_undefined_iff _ _).mp fun hu => hundefined ⟨hk, hu⟩) fun m _ => h.unitMeters m
    zoneMeters := fun m z => getElem_set_induction
      (P := fun _ (e : MeterEntry) => e.kind = .zone → e.binding.val = z.val → e.medium = s.plan.zoneMedium z)
      (fun hk hb => Classical.byContradiction fun hne => hmedium ⟨hk, z, hb.symm, hne⟩) (fun m _ => h.zoneMeters m z) m
    zoneSize := h.zoneSize
    zoneWeight := h.zoneWeight
    zoneMetered := fun z he h30 => by
      obtain ⟨m, hk, hb⟩ := h.zoneMetered z he h30
      by_cases him : i = m
      · subst him
        refine Classical.byContradiction fun hnone => ?_
        exact hempty ⟨hk, z, hb.symm, h30, he, hnone⟩
      · refine ⟨m, ?_⟩
        rw [show (s.plan.meters.set i x)[m] = s.plan.meters[m] by rw [getElem_set_fin, if_neg him]]
        exact ⟨hk, hb⟩
    keyUnits := h.keyUnits
    keyZones := h.keyZones
    keysDiffer := h.keysDiffer }

/-- A zone entry can disable a zone that has members, change the medium under its meters, and enable an empty zone. -/
theorem zoneEntry_keepsConsistent {s : State} {i : ZoneId} {x : ZoneEntry} (h : PlanConsistent s.plan)
    (hpass : checkEntry s (.zone i x) = none) :
    PlanConsistent { s.plan with zones := s.plan.zones.set i x } := by
  have htests := checkEntry_zone s i x
  rw [hpass, firstOf_none_iff] at htests
  simp only [zoneTests, List.forall_mem_cons, List.not_mem_nil, false_implies, implies_true, and_true] at htests
  obtain ⟨hmismatch, hempty⟩ := htests
  exact {
    unitMeters := h.unitMeters
    zoneMeters := fun m z hk hb => by
      rw [h.zoneMeters m z hk hb]
      refine Plan.zoneMedium_congr fun h30 => ?_
      by_cases hi : i = z
      · subst hi
        rw [show (s.plan.zones.set i x)[i] = x by rw [getElem_set_fin, if_pos rfl]]
        refine Classical.byContradiction fun hne => ?_
        refine hmismatch (.inr ⟨h30, m, hk, hb, fun hsame => hne ?_⟩)
        rw [← hsame, h.zoneMeters m i hk hb, Plan.zoneMedium_common h30]
      · rw [show (s.plan.zones.set i x)[z] = s.plan.zones[z] by rw [getElem_set_fin, if_neg hi]]
    zoneSize := h.zoneSize
    zoneWeight := getElem_set_induction
      (P := fun (z : ZoneId) (e : ZoneEntry) => e.enable = true → weight (s.plan.members z) ≠ 0)
      (fun he hw => hempty ⟨he, .inl hw⟩) fun z _ => h.zoneWeight z
    zoneMetered := getElem_set_induction
      (P := fun (z : ZoneId) (e : ZoneEntry) => e.enable = true → z.val < 30 → Metered s.plan z)
      (fun he h30 => Classical.byContradiction fun hnone => hempty ⟨he, .inr ⟨h30, hnone⟩⟩) fun z _ => h.zoneMetered z
    keyUnits := h.keyUnits
    keyZones := fun k z => getElem_set_induction
      (P := fun (z : ZoneId) (e : ZoneEntry) => s.plan.keys[k].zone = some z → e.enable = true)
      (fun hz => Bool.of_not_eq_false fun hoff => hmismatch (.inl ⟨hoff, k, hz⟩)) (fun z _ => h.keyZones k z) z
    keysDiffer := h.keysDiffer }

/-- A key entry can name an undefined slot, a disabled zone, a slot the zone has already, or a zone that is full, and
take the weight of the zone it leaves. -/
theorem keyEntry_keepsConsistent {s : State} {i : KeyId} {x : KeyEntry} (h : PlanConsistent s.plan)
    (hpass : checkEntry s (.key i x) = none) :
    PlanConsistent { s.plan with keys := s.plan.keys.set i x } := by
  have htests := checkEntry_key s i x
  rw [hpass, firstOf_none_iff] at htests
  simp only [keyTests, List.forall_mem_cons, List.not_mem_nil, false_implies, implies_true, and_true] at htests
  obtain ⟨hundefined, hmismatch, hduplicate, hlarge, hempty⟩ := htests
  exact {
    unitMeters := h.unitMeters
    zoneMeters := h.zoneMeters
    zoneSize := fun z => by
      by_cases hx : x.zone = some z
      · exact Nat.not_lt.mp fun hlt => hlarge ⟨z, hx, hlt⟩
      · refine Nat.le_trans (Plan.members_length_le ?_) (h.zoneSize z)
        exact getElem_set_induction
          (P := fun (k : KeyId) (e : KeyEntry) => e.zone = some z → s.plan.keys[k].zone = some z)
          (fun hk => absurd hk hx) fun _ _ => id
    zoneWeight := fun z he hw => by
      by_cases hx : x.zone = some z
      · exact hempty (.inr ⟨z, hx, hw⟩)
      · by_cases hold : s.plan.keys[i].zone = some z
        · exact hempty (.inl ⟨z, hold, hx, he, hw⟩)
        · exact h.zoneWeight z he ((congrArg weight (Plan.members_setKey hold hx)).symm.trans hw)
    zoneMetered := h.zoneMetered
    keyUnits := fun k z => getElem_set_induction
      (P := fun _ (e : KeyEntry) => e.zone = some z → e.unit = 0 ∨ s.plan.units[e.unit].area ≠ 0)
      (fun hz => (not_undefined_iff _ _).mp fun hu => hundefined ⟨Option.ne_none_iff_exists'.mpr ⟨z, hz⟩, hu⟩)
      (fun k _ => h.keyUnits k z) k
    keyZones := fun k z => getElem_set_induction
      (P := fun _ (e : KeyEntry) => e.zone = some z → s.plan.zones[z].enable = true)
      (fun hz => Bool.of_not_eq_false fun hoff => hmismatch ⟨z, hz, hoff⟩) (fun k _ => h.keyZones k z) k
    keysDiffer := fun j k z => getElem_set_induction
      (P := fun (j : KeyId) (e : KeyEntry) => j ≠ k → e.zone = some z → (s.plan.keys.set i x)[k].zone = some z →
        e.unit ≠ (s.plan.keys.set i x)[k].unit)
      (fun hik hx => by
        rw [getElem_set_fin, if_neg hik]
        exact fun hk hu => hduplicate ⟨z, k, hx, hik.symm, hk, hu.symm⟩)
      (fun j _ hjk hj => getElem_set_induction
        (P := fun (k : KeyId) (e : KeyEntry) => j ≠ k → e.zone = some z → s.plan.keys[j].unit ≠ e.unit)
        (fun hji hx hu => hduplicate ⟨z, j, hx, hji, hj, hu⟩)
        (fun k _ hjk hk => h.keysDiffer j k z hjk hj hk) k hjk) j }

/-- An entry that passes keeps the plan within the conditions of R119. -/
theorem place_keepsConsistent {s : State} {e : PlanEntry} (h : PlanConsistent s.plan)
    (hpass : checkEntry s e = none) : PlanConsistent (e.place s.plan) := by
  cases e with
  | unit i x => exact unitEntry_keepsConsistent h hpass
  | meter i x => exact meterEntry_keepsConsistent h hpass
  | zone i x => exact zoneEntry_keepsConsistent h hpass
  | key i x => exact keyEntry_keepsConsistent h hpass
  | header x => exact h.of_tables rfl rfl rfl rfl
  | price i x => exact h.of_tables rfl rfl rfl rfl
  | dayProfile i x => exact h.of_tables rfl rfl rfl rfl
  | weekMap x => exact h.of_tables rfl rfl rfl rfl
  | holiday i x => exact h.of_tables rfl rfl rfl rfl

end Sys2Proof.Machine
end

section
/-! SUPPORT. STAGE_CHANGES (R69, R118 to R121, R125, R126): the entries from the head, each dropped or applied. -/

namespace Sys2Proof.Machine

/-! ## One entry -/

/-- A change replaces the table entry it is for (R121, R125). -/
theorem applyChange_plan (e : PlanEntry) (s : State) : (applyChange e s).plan = e.place s.plan := by
  cases e
  case meter i x => exact applyChange_meter_plan i x s
  all_goals rfl

/-- A change that is no meter entry replaces its table entry and sets CHANGES_APPLIED alone (R118, R125). -/
theorem applyChange_other {e : PlanEntry} (h : ∀ i x, e ≠ .meter i x) (s : State) : applyChange e s =
    { s with plan := e.place s.plan, results := { s.results with applied := true } } := by
  cases e
  case meter i x => exact absurd rfl (h i x)
  all_goals rfl

theorem addWrittenOff_counts (m : Medium) (n : Nat) (r : ChangeResults) :
    (addWrittenOff m n r).applied = r.applied ∧ (addWrittenOff m n r).rejected = r.rejected := by
  cases m <;> exact ⟨rfl, rfl⟩

/-- A change sets CHANGES_APPLIED and leaves the count of rejected changes. -/
theorem applyChange_results (e : PlanEntry) (s : State) :
    (applyChange e s).results.applied = true ∧ (applyChange e s).results.rejected = s.results.rejected := by
  cases e
  case meter i x =>
    unfold applyChange occupancyAfterMeter applyMeter
    dsimp only
    split <;> exact addWrittenOff_counts _ _ { s.results with applied := true }
  all_goals exact ⟨rfl, rfl⟩

theorem handleChange_drops {s : State} {n : BitVec 12} {q : Quad} {e : PlanEntry} {code : CmdOutcome}
    (he : decodeEntry n.toNat q = some e) (hcheck : checkEntry s e = some code) :
    handleChange s { entry := n, words := q } = dropChange code n s := by
  simp only [handleChange, he, hcheck]

theorem handleChange_applies {s : State} {n : BitVec 12} {q : Quad} {e : PlanEntry}
    (he : decodeEntry n.toNat q = some e) (hcheck : checkEntry s e = none) :
    handleChange s { entry := n, words := q } = applyChange e s := by
  simp only [handleChange, he, hcheck]

/-! ## The stage -/

/-- The state in which stage 9 takes the head entry: the queue taken, stage 10 due. -/
def State.takingChanges (c : Close) (s : State) : State :=
  { s with changes := [], close := some { c with next := .finish } }

theorem checkEntry_takingChanges (c : Close) (s : State) (e : PlanEntry) :
    checkEntry (s.takingChanges c) e = checkEntry s e := by cases e <;> rfl

/-- Stage 9, where it is due, handles the entries present from the head (R69, R118). -/
theorem execStageChanges_due {s : State} {c : Close} (hc : s.close = some c) (hn : c.next = .changes) :
    exec .stageChanges s = .next (s.changes.foldl handleChange (s.takingChanges c)) := by
  show Host.Outcome.next (runStage .changes s) = _
  rw [runStage_due hc hn]
  rfl

/-- One entry leaves the queue and the close as the stage has set them. -/
theorem handleChange_takingChanges (x : Change) {c : Close} {s : State} :
    (handleChange (s.takingChanges c) x).changes = [] ∧
      (handleChange (s.takingChanges c) x).close = some { c with next := .finish } := by
  obtain ⟨p, l, oc, r, rj, st, h⟩ := handleChange_frame (s.takingChanges c) x
  rw [h]
  exact ⟨rfl, rfl⟩

/-- Taking over with the rest of the queue goes on from the state the head has left. -/
theorem takingChanges_resume (x : Change) (rest : List Change) (c : Close) (s : State) :
    ({ handleChange (s.takingChanges c) x with changes := rest, close := s.close } : State).takingChanges c =
      handleChange (s.takingChanges c) x := by
  obtain ⟨hchanges, hclose⟩ := handleChange_takingChanges x (c := c) (s := s)
  generalize handleChange (s.takingChanges c) x = t at hchanges hclose
  cases t
  cases hchanges
  cases hclose
  rfl

/-- The entries before the rest of the queue leave the tables that the rest is checked against. -/
theorem execStageChanges_cons {s : State} {c : Close} {x : Change} {rest : List Change} (hc : s.close = some c)
    (hn : c.next = .changes) (hq : s.changes = x :: rest) : ∃ t,
    exec .stageChanges { s with changes := [x] } = .next t ∧
      exec .stageChanges s = exec .stageChanges { t with changes := rest, close := s.close } := by
  refine ⟨handleChange (s.takingChanges c) x, execStageChanges_due (s := { s with changes := [x] }) hc hn, ?_⟩
  rw [execStageChanges_due hc hn, hq, execStageChanges_due
    (s := { handleChange (s.takingChanges c) x with changes := rest, close := s.close }) hc hn, takingChanges_resume]
  rfl

theorem execStageChanges_one {s : State} {c : Close} {x : Change} (hc : s.close = some c) (hn : c.next = .changes)
    (hq : s.changes = [x]) : exec .stageChanges s = .next (handleChange (s.takingChanges c) x) := by
  rw [execStageChanges_due hc hn, hq]
  rfl

/-- Settles O30: the tests kind by kind, then the queue entry by entry. -/
theorem stageChangesDropsOrApplies : Obligations.StageChangesDropsOrApplies := by
  refine ⟨fun s => ⟨checkEntry_unit s, checkEntry_meter s, checkEntry_zone s, checkEntry_key s, fun _ => rfl,
    fun _ _ => rfl, fun _ _ => rfl, fun _ => rfl, fun _ _ => rfl⟩, fun s c hc hn => ⟨?_, ?_, ?_, ?_⟩⟩
  · obtain ⟨p, l, oc, r, rj, st, h⟩ := stageChanges_frame c s
    refine ⟨stageChanges c s, congrArg _ (runStage_due hc hn), ?_⟩
    rw [h]
    exact ⟨rfl, rfl⟩
  · intro hq
    rw [execStageChanges_due hc hn, hq]
    show Host.Outcome.next (s.takingChanges c) = _
    rw [State.takingChanges, ← hq]
  · exact fun x rest hq => execStageChanges_cons hc hn hq
  · intro n q e hq he
    rw [execStageChanges_one hc hn hq]
    refine ⟨fun code hcheck => ?_, fun hcheck => ⟨applyChange e (s.takingChanges c), ?_⟩⟩
    · rw [handleChange_drops he ((checkEntry_takingChanges c s e).trans hcheck)]
      rfl
    · rw [handleChange_applies he ((checkEntry_takingChanges c s e).trans hcheck)]
      have hplan : (applyChange e (s.takingChanges c)).plan = e.place s.plan := applyChange_plan e _
      obtain ⟨happlied, hrejected⟩ := applyChange_results e (s.takingChanges c)
      obtain ⟨p, l, oc, r, hframe⟩ := applyChange_frame e (s.takingChanges c)
      refine ⟨rfl, hplan, happlied, hrejected, by rw [hframe]; rfl, by rw [hframe]; rfl,
        fun h => applyChange_other h _, ?_⟩
      rw [hplan]
      exact ⟨by rintro _ rfl; rfl, by rintro _ _ rfl; rfl, by rintro _ _ rfl; rfl, by rintro _ _ rfl; rfl,
        by rintro _ _ rfl; rfl, by rintro _ _ rfl; rfl, by rintro _ _ rfl; rfl, by rintro _ _ rfl; rfl⟩

end Sys2Proof.Machine
end

section
/-! SUPPORT. In RUNNING the plan meets the conditions of R119 at every step (R118 to R120, R170). The mode turns to
RUNNING at START alone, which checks the plan; a plan in force changes at stage 9 alone, which checks each entry; CLEAR
and power-on reset return to LOADING; and every other event leaves the plan and the mode as they are. -/

namespace Sys2Proof.Machine

/-! ## How the invariant is kept -/

/-- The invariant depends on the plan and the mode alone. -/
theorem PlanInv.of_same {s t : State} (h : PlanInv s) (hmode : t.status.mode = s.status.mode)
    (hplan : t.plan = s.plan) : PlanInv t := by
  unfold PlanInv
  rw [hmode, hplan]
  exact h

/-- An event known to leave the mode, and the plan, as they are. -/
theorem PlanInv.of_stable {s t : State} (h : PlanInv s) (hs : OccStable s t) (hplan : t.plan = s.plan) :
    PlanInv t := h.of_same hs.mode hplan

/-- In LOADING no plan is in force. -/
theorem PlanInv.of_loading {t : State} (h : t.status.mode = .loading) : PlanInv t :=
  fun hm => nomatch h.symm.trans hm

/-! ## Events that leave the plan as it is -/

/-! ### The port -/

@[simp] theorem grant_plan (s : State) : (grant s).plan = s.plan := by
  obtain ⟨l, h⟩ := grant_frame s
  rw [h]

@[simp] theorem postWrite_plan (t : WriteTxn) (s : State) : (postWrite t s).plan = s.plan := by
  obtain ⟨l, a, h⟩ := postWrite_frame t s
  rw [h]

theorem endDrain_plan (s : State) : (endDrain s).plan = s.plan := by
  obtain ⟨l, h⟩ := endDrain_frame s
  rw [h]

theorem discardDrain_plan (s : State) : (discardDrain s).plan = s.plan := by
  obtain ⟨l, st, h⟩ := discardDrain_frame s
  rw [h]

theorem endRead_plan (r : Response) (s : State) : (endRead r s).plan = s.plan := by
  obtain ⟨l, a, h⟩ := endRead_frame r s
  rw [h]

theorem forwardRead_plan (t : ReadTxn) (s : State) : (forwardRead t s).plan = s.plan := by
  unfold forwardRead
  split
  · rfl
  · rw [grant_plan, requestRead_plan]

theorem ringRead_plan (t : ReadTxn) (off : Nat) (s : State) : (ringRead t off s).plan = s.plan := by
  unfold ringRead
  split
  · rfl
  · exact forwardRead_plan t s

theorem decideRead_plan (t : ReadTxn) (s : State) : (decideRead t s).plan = s.plan := by
  unfold decideRead
  split
  · split
    · rfl
    · rfl
    · exact ringRead_plan t _ s
    · exact forwardRead_plan t s
    · exact forwardRead_plan t s
    · exact forwardRead_plan t s
  · rfl

/-! ### The channels -/

@[simp] theorem choose_plan (s : State) : (choose s).plan = s.plan := by
  obtain ⟨o, st, h⟩ := choose_frame s
  rw [h]

theorem handWork_plan (c : Channel) (s : State) : (handWork c s).plan = s.plan := by
  obtain ⟨o, st, h⟩ := handWork_frame c s
  rw [h]

theorem exportRecords_plan (n : Nat) (s : State) : (exportRecords n s).plan = s.plan := by
  obtain ⟨o, st, h⟩ := exportRecords_frame n s
  rw [h]

theorem completeRecord_plan (c : Channel) (s : State) : (completeRecord c s).plan = s.plan := by
  obtain ⟨o, sn, oc, p, st, h⟩ := completeRecord_frame c s
  rw [h]

theorem failRecord_plan (s : State) : (failRecord s).plan = s.plan := by
  obtain ⟨o, sn, st, h⟩ := failRecord_frame s
  rw [h]

@[simp] theorem cancelActive_plan (s : State) : (cancelActive s).plan = s.plan := by
  obtain ⟨l, o, sn, h⟩ := cancelActive_frame s
  rw [h]

theorem grant_freePort_plan {s t : State} (h : t.plan = s.plan) : (grant (freePort t)).plan = s.plan := by
  rw [grant_plan, freePort_plan, h]

theorem timeoutAccess_plan (s : State) : (timeoutAccess s).plan = s.plan := by
  unfold timeoutAccess
  split
  · exact discardDrain_plan s
  · exact endRead_plan .refuse s
  · exact grant_freePort_plan (failRecord_plan s)
  · exact grant_freePort_plan (failRecord_plan s)
  · exact grant_freePort_plan rfl
  · rfl

theorem linkPeriod_plan (s : State) : (linkPeriod s).plan = s.plan := by
  unfold linkPeriod
  split
  · rfl
  · split
    · rfl
    · exact timeoutAccess_plan s

theorem resetBus_plan (s : State) : (resetBus s).plan = s.plan := by
  have dropped : (dropRead s).plan = s.plan := by
    unfold dropRead
    split <;> rfl
  have cancelled : (cancelAndChoose (dropRead s)).plan = (dropRead s).plan := by
    unfold cancelAndChoose
    split
    · rw [choose_plan, cancelActive_plan]
    · rfl
  exact cancelled.trans dropped

/-! ### The clock, but for its boundaries -/

theorem completeSwitch_plan (s : State) : (completeSwitch s).plan = s.plan := by
  unfold completeSwitch
  split <;> rfl

theorem timeoutSwitch_plan (s : State) : (timeoutSwitch s).plan = s.plan := by
  unfold timeoutSwitch
  split <;> rfl

theorem settleCrystal_plan (s : State) : (settleCrystal s).plan = s.plan := by
  unfold settleCrystal
  split <;> rfl

theorem failSource_plan (src : Source) (s : State) : (failSource src s).plan = s.plan := by
  unfold failSource
  split
  · split <;> rfl
  · rfl

theorem limitPeriod_plan (s : State) : (limitPeriod s).plan = s.plan := by
  unfold limitPeriod
  dsimp only
  split
  · split
    · exact timeoutSwitch_plan _
    · rfl
  · rfl

theorem monitorPeriod_plan (src : Source) (limit : Nat) (s : State) :
    (monitorPeriod src limit s).plan = s.plan := by
  unfold monitorPeriod
  split
  · rfl
  · split
    · split
      · exact failSource_plan src s
      · rfl
    · rfl

/-! ## Stage 9 (R118) -/

/-- An entry is applied to a plan in force where it passes, and is dropped where it fails a test. -/
theorem handleChange_planInv (c : Change) {s : State} (h : PlanInv s) : PlanInv (handleChange s c) := by
  intro hm
  have hplan : PlanConsistent s.plan := h ((handleChange_occStable s c).mode.symm.trans hm)
  unfold handleChange
  split
  · exact hplan
  · rename_i e _
    split
    · rename_i hpass
      rw [applyChange_plan]
      exact place_keepsConsistent hplan hpass
    · exact hplan

/-- Each entry is checked against the tables that the entries before it have left. -/
theorem foldl_handleChange_planInv (l : List Change) : ∀ {s : State}, PlanInv s → PlanInv (l.foldl handleChange s) := by
  induction l with
  | nil => exact id
  | cons c l ih => exact fun h => ih (handleChange_planInv c h)

theorem handleChanges_planInv {s : State} (h : PlanInv s) : PlanInv (handleChanges s) :=
  foldl_handleChange_planInv s.changes (s := { s with changes := [] }) h

/-! ## The close -/

theorem stageOccupancy_plan (c : Close) (s : State) : (stageOccupancy c s).plan = s.plan := by
  obtain ⟨oc, sn, a, o, st, h⟩ := stageOccupancy_frame c s
  rw [h]

theorem stagePeriod_plan (c : Close) (s : State) : (stagePeriod c s).plan = s.plan := by
  obtain ⟨sn, a, p, o, st, h⟩ := stagePeriod_frame c s
  rw [h]

theorem stageSummary_plan (c : Close) (s : State) : (stageSummary c s).plan = s.plan := by
  obtain ⟨o, st, h⟩ := stageSummary_frame c s
  rw [h]

/-- No stage but stage 9 changes the plan. -/
theorem stageEffect_plan {st : Stage} (hst : st ≠ .changes) (c : Close) (s : State) :
    (stageEffect st c s).plan = s.plan := by
  cases st with
  | direct => unfold stageEffect stageDirect; rfl
  | zones => unfold stageEffect stageZones; rfl
  | residual => unfold stageEffect stageResidual; rfl
  | price => unfold stageEffect stagePrice; rfl
  | occupancy => exact stageOccupancy_plan c s
  | period => exact stagePeriod_plan c s
  | summary => exact stageSummary_plan c s
  | changes => exact absurd rfl hst
  | finish => rfl

theorem runStage_planInv (st : Stage) {s : State} (h : PlanInv s) : PlanInv (runStage st s) := by
  unfold runStage
  split
  · rename_i c hc
    split
    · by_cases hst : st = .changes
      · subst hst
        exact handleChanges_planInv (s := { s with close := some { c with next := .finish } }) h
      · exact h.of_stable (stageEffect_occStable st hc) (stageEffect_plan hst c s)
    · exact h
  · exact h

/-- The stages still due, in any order. -/
theorem foldl_runStage_planInv (l : List Stage) :
    ∀ {s : State}, PlanInv s → PlanInv (l.foldl (fun t st => runStage st t) s) := by
  induction l with
  | nil => exact id
  | cons st l ih => exact fun h => ih (runStage_planInv st h)

theorem finishClose_planInv {s : State} (h : PlanInv s) : PlanInv (finishClose s) :=
  foldl_runStage_planInv stageOrder h

theorem beginClose_planInv (b : Time) {s : State} (h : PlanInv s) : PlanInv (beginClose b s) :=
  h.of_same (raiseIf_occStable _ .meterStale _).mode (beginClose_plan b s)

/-! ## The billing clock -/

theorem boundaryEvent_planInv {s : State} (h : PlanInv s) : PlanInv (boundaryEvent s) :=
  beginClose_planInv s.clock.time (finishClose_planInv h)

theorem passSecond_planInv {s : State} (h : PlanInv s) : PlanInv (passSecond s) := by
  unfold passSecond
  dsimp only
  split
  · split
    · exact boundaryEvent_planInv (s := { s with clock := { s.clock with time := s.clock.time + 1, phase := 0 } }) h
    · exact h
  · exact h

theorem tickSecond_planInv {s : State} (h : PlanInv s) : PlanInv (tickSecond s) := by
  have hpassed := passSecond_planInv h
  rw [tickSecond_eq]
  split
  · exact hpassed.of_stable (completeSwitch_occStable _) (completeSwitch_plan _)
  · exact hpassed

theorem secondEdge_planInv {s : State} (h : PlanInv s) : PlanInv (secondEdge s) :=
  tickSecond_planInv (s := { s with clock := s.clock.atEdge }) h

theorem pulse_planInv {s : State} (h : PlanInv s) : PlanInv (pulse s) := by
  rw [pulse_eq]
  split
  · exact tickSecond_planInv (s := { s with clock := { s.clock.pulsed with trefGuard := none } }) h
  · exact h

theorem sourcePeriod_planInv {s : State} (h : PlanInv s) : PlanInv (sourcePeriod s) := by
  unfold sourcePeriod
  split
  · exact h
  · exact secondEdge_planInv h

theorem ircSourcePeriod_planInv {s : State} (h : PlanInv s) : PlanInv (ircSourcePeriod s) := by
  unfold ircSourcePeriod
  split
  · exact sourcePeriod_planInv h
  · exact h
  · exact h

/-- The limit and the monitor leave the plan as the current source's period has left it. -/
theorem ircPeriod_planInv {s : State} (h : PlanInv s) : PlanInv (ircPeriod s) := by
  have hlimit := (ircSourcePeriod_planInv h).of_stable (limitPeriod_occStable _) (limitPeriod_plan _)
  have htref := hlimit.of_stable (monitorPeriod_occStable .tref Config.trefLimit _) (monitorPeriod_plan _ _ _)
  exact htref.of_stable (monitorPeriod_occStable .xtal Config.xtalLimit _) (monitorPeriod_plan _ _ _)

theorem crystalPeriod_planInv {s : State} (h : PlanInv s) : PlanInv (crystalPeriod s) := by
  unfold crystalPeriod
  dsimp only
  split
  · exact sourcePeriod_planInv h
  · split
    · split
      · split
        · exact h
        · exact PlanInv.of_stable (s := { s with clock := s.clock.restart .xtal }) h (settleCrystal_occStable _)
            (settleCrystal_plan _)
      · exact h
    · exact h

theorem idleStep_planInv {s : State} (h : PlanInv s) : PlanInv (idleStep s) := by
  have hcounted : PlanInv { s with idle := s.idle + 1 } := h
  unfold idleStep oscillatorPeriod
  split
  · exact ircPeriod_planInv hcounted
  · exact crystalPeriod_planInv hcounted
  · exact hcounted.of_stable (linkPeriod_occStable _) (linkPeriod_plan _)

/-! ## START and CLEAR (R169, R170, R174) -/

/-- The code of a first test is one of the tests' codes. -/
theorem FirstOf.code_mem {ts : List (CmdOutcome × Prop)} {code : CmdOutcome} (h : FirstOf ts (some code)) :
    code ∈ ts.map (·.1) := by
  induction ts with
  | nil => cases h
  | cons x ts ih =>
    rcases h with ⟨_, hcode⟩ | ⟨_, hrest⟩
    · cases hcode
      exact List.mem_cons_self
    · exact List.mem_cons_of_mem _ (ih hrest)

/-- An entry does not fail with DONE. -/
theorem StartFails.ne_done {p : Plan} {n : Nat} {code : CmdOutcome} (h : StartFails p n code) : code ≠ .done := by
  rintro rfl
  rcases h with ⟨m, _, h⟩ | ⟨z, _, h⟩ | ⟨k, _, h⟩ <;>
    simpa [startMeterTests, startZoneTests, startKeyTests] using h.code_mem

/-- START is answered DONE for a plan that meets the conditions of R119. -/
theorem startOutcome_done {s : State} (h : (startOutcome s).1 = .done) : PlanConsistent s.plan := by
  unfold startOutcome at h
  split at h
  · cases h
  · split at h
    · cases h
    · split at h
      · rename_i f hf
        have hfails : StartFails s.plan f.2 f.1 := ((startChecksTheWholePlan s.plan).2 f.1 f.2).mp hf |>.1
        exact absurd h hfails.ne_done
      · rename_i hf
        exact (startChecksTheWholePlan s.plan).1.mp hf

theorem commandStart_planInv {s : State} (h : PlanInv s) : PlanInv (commandStart s) := by
  unfold commandStart
  dsimp only
  split
  · rename_i hdone
    exact fun _ => startOutcome_done (s := s) hdone
  · exact h

/-- CLEAR answered DONE returns to LOADING. -/
theorem commandClear_planInv (armed : Bool) {s : State} (h : PlanInv s) : PlanInv (commandClear armed s) := by
  unfold commandClear
  split
  · exact .of_loading rfl
  · exact h

theorem commandPeriodResend_plan (s : State) : (commandPeriodResend s).plan = s.plan := by
  unfold commandPeriodResend
  split
  · exact handWork_plan .p s
  · rfl

theorem commandWrite_planInv (code argument : BitVec 8) (armed : Bool) {s : State} (h : PlanInv s) :
    PlanInv (commandWrite code argument armed s) := by
  unfold commandWrite
  split
  · exact commandStart_planInv h
  · exact h
  · exact commandClear_planInv armed h
  · unfold commandPeriodClose
    split <;> exact h
  · exact h.of_stable (commandPeriodResend_occStable s) (commandPeriodResend_plan s)
  · exact h.of_stable (commandClockSwitch_occStable argument s) (by rw [commandClockSwitch_frame])
  · exact h

/-! ## The status block -/

theorem unitCmdWrite_planInv (code : BitVec 8) (u : UnitId) {s : State} (h : PlanInv s) :
    PlanInv (unitCmdWrite code u s) := by
  refine h.of_stable (unitCmdWrite_occStable code u s) ?_
  obtain ⟨oc, l, st, hf⟩ := unitCmdWrite_frame code u s
  rw [hf]

theorem writeExport_plan (v : Word) (s : State) : (writeExport v s).plan = s.plan := by
  unfold writeExport
  split
  · exact exportRecords_plan _ s
  · rfl

theorem statusWrite_planInv (i : Nat) (v : Word) {s : State} (h : PlanInv s) : PlanInv (statusWrite i v s) := by
  have hd : PlanInv (disarm s) := h
  unfold statusWrite
  dsimp only
  split
  · exact hd
  · exact hd
  · exact commandWrite_planInv _ _ _ hd
  · exact unitCmdWrite_planInv _ _ hd
  · unfold writeTime
    split <;> exact hd
  · unfold writeTimeAdjust
    split <;> exact hd
  · exact hd.of_stable (writeExport_occStable v _) (writeExport_plan v _)
  · exact hd

/-! ## Upstream transactions -/

/-- In RUNNING a plan write leaves the tables as they are: it is turned away or queued (R117). -/
theorem planAreaWrite_plan {s : State} (hm : s.status.mode = .running) (t : WriteTxn) (off : Nat) :
    (planAreaWrite t off s).plan = s.plan := by
  unfold planAreaWrite
  split
  · split
    · rfl
    · split
      · rfl
      · split
        · rfl
        · split
          · rfl
          · rw [if_pos (s.running_iff.mpr hm)]
            split
            · rfl
            · rw [postWrite_plan]
  · rfl

theorem planAreaWrite_planInv (t : WriteTxn) (off : Nat) {s : State} (h : PlanInv s) :
    PlanInv (planAreaWrite t off s) := by
  have hmode := (planAreaWrite_occStable t off s).mode
  intro hm
  have hrunning := hmode.symm.trans hm
  rw [planAreaWrite_plan hrunning]
  exact h hrunning

theorem postWrite_planInv (t : WriteTxn) {s : State} (h : PlanInv s) : PlanInv (postWrite t s) :=
  h.of_stable (postWrite_occStable t s) (postWrite_plan t s)

theorem dropRingWrite_plan (t : WriteTxn) (off : Nat) (s : State) : (dropRingWrite t off s).plan = s.plan := by
  unfold dropRingWrite captureWrite raiseIf
  split
  · split
    · rfl
    · split
      · rfl
      · split
        · rw [raise_plan, postWrite_plan]
        · rw [postWrite_plan]
  · rfl

theorem decideWrite_planInv (t : WriteTxn) {s : State} (h : PlanInv s) : PlanInv (decideWrite t s) := by
  unfold decideWrite
  split
  · split
    · exact postWrite_planInv t h
    · exact planAreaWrite_planInv t _ h
    · exact h.of_stable (dropRingWrite_occStable t _ s) (dropRingWrite_plan t _ s)
    · unfold statusBlockWrite
      split
      · exact statusWrite_planInv _ _ h
      · exact h
    · exact h
    · unfold ringWrite
      split
      · exact h
      · split
        · exact h
        · exact postWrite_planInv t h
  · split <;> exact h

theorem takeUpstream_planInv {f : State → State} {s : State} (h : PlanInv s) (hf : PlanInv s → PlanInv (f s)) :
    PlanInv (takeUpstream f s) := by
  unfold takeUpstream
  split
  · exact hf h
  · exact h

theorem takeWrite_planInv (t : WriteTxn) {s : State} (h : PlanInv s) : PlanInv (takeUpstream (decideWrite t) s) :=
  takeUpstream_planInv h (decideWrite_planInv t)

theorem takeRead_planInv (t : ReadTxn) {s : State} (h : PlanInv s) : PlanInv (takeUpstream (decideRead t) s) :=
  takeUpstream_planInv h fun h => h.of_stable (decideRead_occStable t s) (decideRead_plan t s)

theorem takeTxn_planInv (t : Txn) {s : State} (h : PlanInv s) : PlanInv (takeUpstream (decideTxn t) s) := by
  cases t with
  | write w => exact takeWrite_planInv w h
  | read r => exact takeRead_planInv r h

theorem takeStatus_planInv (i : Nat) (v : Word) {s : State} (h : PlanInv s) :
    PlanInv (takeUpstream (statusWrite i v) s) := takeUpstream_planInv h (statusWrite_planInv i v)

theorem giveCommand_planInv (code argument : BitVec 8) {s : State} (h : PlanInv s) :
    PlanInv (giveCommand code argument s) :=
  takeUpstream_planInv h fun h => commandWrite_planInv code argument _ (s := disarm s) h

theorem takeUnitCommand_planInv (code : BitVec 8) (u : UnitId) {s : State} (h : PlanInv s) :
    PlanInv (takeUpstream (fun s => unitCmdWrite code u (disarm s)) s) :=
  takeUpstream_planInv h fun h => unitCmdWrite_planInv code u (s := disarm s) h

/-! ## Every command -/

/-- The command is answered, and the state it leaves keeps the plan invariant. -/
def KeepsPlan (r : Host.Outcome State Fault Refusal) : Prop := ∃ t, r = .next t ∧ PlanInv t

theorem KeepsPlan.next {t : State} (h : PlanInv t) : KeepsPlan (.next t) := ⟨t, rfl, h⟩

theorem KeepsPlan.next_stable {s t : State} (h : PlanInv s) (hs : OccStable s t) (hplan : t.plan = s.plan) :
    KeepsPlan (.next t) := .next (h.of_stable hs hplan)

theorem execBrst_keepsPlan (level : Bool) {s : State} (h : PlanInv s) : KeepsPlan (execBrst s level) := by
  refine .next ?_
  split
  · exact PlanInv.of_stable (s := setBrst level s) h (resetBus_occStable _) (resetBus_plan _)
  · exact h

theorem execXtalSettled_keepsPlan {s : State} (h : PlanInv s) : KeepsPlan (execXtalSettled s) := by
  refine .next (PlanInv.of_stable ?_ (settleCrystal_occStable _) (settleCrystal_plan _))
  split <;> exact h

/-- A reading moves counts, live fields and occupancy records alone. -/
theorem takeRecord_planInv (r : QueuedReading) {s : State} (h : PlanInv s) : PlanInv (takeRecord r s) := by
  rcases Nat.lt_or_ge 511 (readingMeter r.words) with hbig | hsmall
  · rw [takeRecord_noMeter hbig, tally_frame]
    exact h
  · rw [takeRecord_meter (m := ⟨_, Nat.lt_succ_of_le hsmall⟩) rfl, tally_frame]
    exact h

theorem execReadingTake_keepsPlan {s : State} (h : PlanInv s) : KeepsPlan (execReadingTake s) := by
  unfold execReadingTake
  split
  · exact .next h
  · rename_i r rest _
    refine .next ?_
    split
    · exact h
    · exact takeRecord_planInv r (s := { s with capture := { s.capture with queue := rest } }) h

theorem execRecordStart_keepsPlan {s : State} (h : PlanInv s) : KeepsPlan (execRecordStart s) := by
  refine .next ?_
  split
  · exact PlanInv.of_stable (s := requestWriteOut (advanceRecord .first s)) h (grant_occStable _) (grant_plan _)
  · exact h

theorem execFirstBurstAccepted_keepsPlan {s : State} (h : PlanInv s) : KeepsPlan (execFirstBurstAccepted s) := by
  unfold execFirstBurstAccepted
  split
  · exact .next_stable (s := freePort (requestWriteOut (advanceRecord .second s))) h (grant_occStable _) (grant_plan _)
  · exact .next h

theorem execRecordComplete_keepsPlan {s : State} (h : PlanInv s) : KeepsPlan (execRecordComplete s) := by
  unfold execRecordComplete
  split
  · exact .next_stable h (completeRecord_occStable _ s).grant_freePort (grant_freePort_plan (completeRecord_plan _ s))
  · exact .next h

theorem execRecordAbandoned_keepsPlan {s : State} (h : PlanInv s) : KeepsPlan (execRecordAbandoned s) := by
  have hfailed : PlanInv (grant (freePort (failRecord s))) :=
    h.of_stable (failRecord_occStable s).grant_freePort (grant_freePort_plan (failRecord_plan s))
  unfold execRecordAbandoned
  split
  · exact .next hfailed
  · exact .next hfailed
  · exact .next h

theorem execDrainWriteAccepted_keepsPlan {s : State} (h : PlanInv s) : KeepsPlan (execDrainWriteAccepted s) := by
  unfold execDrainWriteAccepted
  split
  · exact .next_stable h (endDrain_occStable s) (endDrain_plan s)
  · exact .next h

theorem execDrainWriteDiscarded_keepsPlan {s : State} (h : PlanInv s) : KeepsPlan (execDrainWriteDiscarded s) := by
  unfold execDrainWriteDiscarded
  split
  · exact .next_stable h (discardDrain_occStable s) (discardDrain_plan s)
  · exact .next h

theorem execReadAnswer_keepsPlan (a : MemAnswer) {s : State} (h : PlanInv s) : KeepsPlan (execReadAnswer a s) := by
  unfold execReadAnswer
  split
  · exact .next_stable h (endRead_occStable _ s) (endRead_plan _ s)
  · exact .next h

theorem execDisregardedMemoryAnswer_keepsPlan {s : State} (h : PlanInv s) :
    KeepsPlan (execDisregardedMemoryAnswer s) := by
  unfold execDisregardedMemoryAnswer
  split
  · exact .next_stable h (OccStable.refl s).grant_freePort (grant_freePort_plan rfl)
  · exact .next h

theorem exec_keepsPlan (i : Instr) {s : State} (h : PlanInv s) : KeepsPlan (exec i s) := by
  cases i with
  | powerOnReset => exact .next (.of_loading rfl)
  | brst level => exact execBrst_keepsPlan level h
  | planLockChange level => exact .next h
  | trefPulse dt => exact .next (pulse_planInv (s := { s with clock := s.clock.pass dt }) h)
  | secondEdge => exact .next (secondEdge_planInv h)
  | xtalSettled => exact execXtalSettled_keepsPlan h
  | switchTimeout => exact .next_stable h (timeoutSwitch_occStable s) (timeoutSwitch_plan s)
  | clockMonitorFail source => exact .next_stable h (failSource_occStable source s) (failSource_plan source s)
  | stageDirect => exact .next (runStage_planInv .direct h)
  | stageZones => exact .next (runStage_planInv .zones h)
  | stageResidual => exact .next (runStage_planInv .residual h)
  | stagePrice => exact .next (runStage_planInv .price h)
  | stageOccupancy => exact .next (runStage_planInv .occupancy h)
  | stagePeriod => exact .next (runStage_planInv .period h)
  | stageSummary => exact .next (runStage_planInv .summary h)
  | stageChanges => exact .next (runStage_planInv .changes h)
  | stageEnd => exact .next (runStage_planInv .finish h)
  | dropWrite t => exact .next (takeWrite_planInv t h)
  | planWrite t => exact .next (takeWrite_planInv t h)
  | postedWrite t => exact .next (takeWrite_planInv t h)
  | forwardedRead t => exact .next (takeRead_planInv t h)
  | statementRingAccess t => exact .next (takeTxn_planInv t h)
  | misalignedTransaction t => exact .next (takeTxn_planInv t h)
  | accountWindowWrite t => exact .next (takeWrite_planInv t h)
  | statusWriteRefused t => exact .next (takeWrite_planInv t h)
  | causeWrite value => exact .next (takeStatus_planInv 2 value h)
  | maskWrite value => exact .next (takeStatus_planInv 3 value h)
  | timeWrite value => exact .next (takeStatus_planInv 6 value h)
  | timeAdjustWrite value => exact .next (takeStatus_planInv 7 value h)
  | exportWrite count => exact .next (takeStatus_planInv 11 count h)
  | start => exact .next (giveCommand_planInv 1 0 h)
  | clearArm => exact .next (giveCommand_planInv 2 0 h)
  | clear => exact .next (giveCommand_planInv 3 0 h)
  | periodClose => exact .next (giveCommand_planInv 4 0 h)
  | periodResend => exact .next (giveCommand_planInv 5 0 h)
  | clockSwitch argument => exact .next (giveCommand_planInv 6 argument h)
  | commandBadCode code argument => exact .next (giveCommand_planInv code argument h)
  | openUnit slot => exact .next (takeUnitCommand_planInv 1 slot h)
  | closeUnit slot => exact .next (takeUnitCommand_planInv 2 slot h)
  | forceUnit slot => exact .next (takeUnitCommand_planInv 3 slot h)
  | cancelUnit slot => exact .next (takeUnitCommand_planInv 4 slot h)
  | unitCmdBadCode code slot => exact .next (takeUnitCommand_planInv code slot h)
  | readingTake => exact execReadingTake_keepsPlan h
  | drainWriteAccepted => exact execDrainWriteAccepted_keepsPlan h
  | drainWriteDiscarded => exact execDrainWriteDiscarded_keepsPlan h
  | readAnswer answer => exact execReadAnswer_keepsPlan answer h
  | memoryTimeout => exact .next_stable h (timeoutAccess_occStable s) (timeoutAccess_plan s)
  | recordStart => exact execRecordStart_keepsPlan h
  | firstBurstAccepted => exact execFirstBurstAccepted_keepsPlan h
  | recordComplete => exact execRecordComplete_keepsPlan h
  | recordAbandoned => exact execRecordAbandoned_keepsPlan h
  | disregardedMemoryAnswer => exact execDisregardedMemoryAnswer_keepsPlan h

theorem step_keepsPlan {s : State} (h : PlanInv s) : KeepsPlan (step s) := by
  unfold step
  split
  · exact .next (idleStep_planInv h)
  · exact exec_keepsPlan _ h

/-- Settles O9: START lets in a plan that meets the conditions alone, stage 9 applies an entry that keeps them, and no
other event changes a plan in force. -/
theorem stepKeepsThePlanConsistent : Obligations.StepKeepsThePlanConsistent := by
  intro s t h hstep
  obtain ⟨t', ht', hinv⟩ := step_keepsPlan h
  cases ht'.symm.trans hstep
  exact hinv

end Sys2Proof.Machine
end

section
/-! SUPPORT. PLAN_WRITE turned away, test by test (R114, R117, R128, R181), and PLAN_LOCK_CHANGE (R127). -/

namespace Sys2Proof.Machine

/-! ## The tests of R114, in order -/

/-- Test 1: a write of another form is refused. -/
theorem planAreaWrite_malformed {t : WriteTxn} (hform : ¬ (t.len = .w4 ∧ t.enables = [15, 15, 15, 15])) (off : Nat)
    (s : State) : planAreaWrite t off s = respond .refuse s := if_neg ((not_congr (quadForm_iff t)).mpr hform)

/-- Test 1: words that are no entry at their offset are refused (R181). -/
theorem planAreaWrite_undecoded {t : WriteTxn} {off : Nat} (s : State)
    (hform : t.len = .w4 ∧ t.enables = [15, 15, 15, 15]) (he : decodeEntry (off / 16) (quadOf t.data) = none) :
    planAreaWrite t off s = respond .refuse s := by
  unfold planAreaWrite
  rw [if_pos ((quadForm_iff t).mpr hform), he]

/-- What the plan area answers to a well-formed entry, up to the effect of one that passes every test. -/
theorem planAreaWrite_decoded {t : WriteTxn} {off : Nat} {s : State} {e : PlanEntry}
    (hform : t.len = .w4 ∧ t.enables = [15, 15, 15, 15]) (he : decodeEntry (off / 16) (quadOf t.data) = some e) :
    planAreaWrite t off s =
      if s.locked && e.lockCovered then respond .refuse s
      else if s.running && refusedInRunning s.plan e then respond .refuse s
      else if s.bufferRoom = false then respond .retry s
      else if s.running then
        if 32 ≤ s.changes.length then respond .retry s
        else postWrite t { s with changes :=
          s.changes ++ [{ entry := BitVec.ofNat 12 (off / 16), words := quadOf t.data }] }
      else postWrite t (applyInLoading e s) := by
  unfold planAreaWrite
  rw [if_pos ((quadForm_iff t).mpr hform), he]
  rfl

/-- The plan lock covers every kind but unit and meter entries (R128). -/
theorem lockCovered_eq_true {e : PlanEntry} (hunit : ∀ i x, e ≠ .unit i x) (hmeter : ∀ i x, e ≠ .meter i x) :
    e.lockCovered = true := by
  cases e
  case unit i x => exact absurd rfl (hunit i x)
  case meter i x => exact absurd rfl (hmeter i x)
  all_goals rfl

/-- The week map and another interval length are refused in RUNNING for their kind. -/
theorem refusedInRunning_eq_true {p : Plan} {e : PlanEntry}
    (h : (∃ x, e = .weekMap x) ∨ ∃ x, e = .header x ∧ x.len ≠ p.header.len) : refusedInRunning p e = true := by
  rcases h with ⟨x, rfl⟩ | ⟨x, rfl, hlen⟩
  · rfl
  · exact bne_iff_ne.mpr hlen

/-- Test 4: an entry that no earlier test refuses is retried for a full buffer, and in RUNNING for a full queue. -/
theorem planAreaWrite_retried {t : WriteTxn} {off : Nat} {s : State} {e : PlanEntry}
    (hform : t.len = .w4 ∧ t.enables = [15, 15, 15, 15]) (he : decodeEntry (off / 16) (quadOf t.data) = some e)
    (hlock : (s.locked && e.lockCovered) = false) (hkind : (s.running && refusedInRunning s.plan e) = false)
    (hfull : s.bufferRoom = false ∨ (s.running = true ∧ 32 ≤ s.changes.length)) :
    planAreaWrite t off s = respond .retry s := by
  rw [planAreaWrite_decoded hform he, hlock, hkind]
  simp only [Bool.false_eq_true, if_false]
  rcases hfull with hroom | ⟨hrun, hqueue⟩
  · rw [if_pos hroom]
  · rw [if_pos hrun, if_pos hqueue, ite_self]

/-- Settles O42, test by test. -/
theorem planWriteIsTurnedAway : Obligations.PlanWriteIsTurnedAway := by
  intro s t off hfree hat hoff haligned
  rw [execPlanWrite_plan hfree hat hoff haligned]
  refine ⟨fun hform => congrArg _ (planAreaWrite_malformed hform off s), ?_⟩
  intro a b c d q hlen henables hdata hq
  have hform : t.len = .w4 ∧ t.enables = [15, 15, 15, 15] := ⟨hlen, henables⟩
  have hquad : quadOf t.data = q := by rw [hdata, hq]; rfl
  rw [← hquad]
  refine ⟨fun he => congrArg _ (planAreaWrite_undecoded s hform he), fun e he => ⟨?_, ?_, ?_⟩⟩
  · intro hl hunit hmeter
    rw [planAreaWrite_decoded hform he, hl, lockCovered_eq_true hunit hmeter]
    rfl
  · intro hm hkind
    rw [planAreaWrite_decoded hform he, s.running_iff.mpr hm, refusedInRunning_eq_true hkind, Bool.and_true,
      if_pos rfl, ite_self]
    rfl
  · intro hkinds hrunning hfull
    refine congrArg _ (planAreaWrite_retried hform he ?_ ?_ ?_)
    · cases hl : s.locked
      · rfl
      · exact lockCovered_eq_false (hkinds hl)
    · cases hr : s.running
      · rfl
      · obtain ⟨hweek, hheader⟩ := hrunning (s.running_iff.mp hr)
        exact refusedInRunning_eq_false hweek hheader
    · refine hfull.imp (fun hposted => ?_) fun ⟨hm, hqueue⟩ => ⟨s.running_iff.mpr hm, hqueue⟩
      exact Bool.eq_false_iff.mpr ((not_congr (bufferRoom_iff s)).mpr (Nat.not_lt.mpr hposted))

/-! ## The plan lock (R127) -/

theorem State.locked_iff (s : State) :
    s.locked = true ↔ s.plan.header.lockEnable = true ∧ s.pins.planLock = true := by
  simp only [State.locked, Bool.and_eq_true]

/-- Settles O21: LOCKED is read from the lock enable and the pin. -/
theorem planLockChangeMovesLocked : Obligations.PlanLockChangeMovesLocked := by
  intro s level
  exact ⟨{ s with pins := { s.pins with planLock := level } }, rfl, rfl, State.locked_iff _⟩

end Sys2Proof.Machine
end

section
/-! SUPPORT. The decision on pass-through transactions (R148, R150, R151, R155), the arbiter's grant (R158), and the
transactions that are refused at the decision (R149, R160, R161, R166). -/

namespace Sys2Proof.Machine

/-! ## The arbiter (R158) -/

/-- A request that is fulfilled waits no longer; the others do as before. -/
theorem Link.withdraw_waits (l : Link) (r x : Requester) : (l.withdraw r).waits x = (l.waits x && x != r) := by
  cases r <;> cases x <;> simp [Link.withdraw, Link.waits]

/-- Whether a requester waits is said by the request flags alone. -/
theorem Link.waits_congr {l l' : Link} (hd : l'.reqDrain = l.reqDrain) (hr : l'.reqRead = l.reqRead)
    (hw : l'.reqWriteOut = l.reqWriteOut) : l'.waits = l.waits := by
  funext x
  cases x
  · exact hd
  · exact hr
  · exact hw

/-- What stands above and below a requester is the order without it. -/
theorem order_without {above below : List Requester} {r : Requester} (h : (above ++ r :: below).Nodup) :
    (above ++ r :: below).filter (· != r) = above ++ below := by
  have hr : r ∉ above := fun hmem => (List.nodup_append.mp h).2.2 r hmem r List.mem_cons_self rfl
  rw [← h.erase_eq_filter, List.erase_append_right _ hr, List.erase_cons_head]

/-- A free port goes to the waiting requester with none that waits above it, which moves to the bottom. -/
theorem grant_highest {s : State} {above below : List Requester} {r : Requester} (hn : s.link.port = none)
    (hnodup : s.link.order.Nodup) (ho : s.link.order = above ++ r :: below)
    (habove : ∀ x ∈ above, s.link.waits x = false) (hr : s.link.waits r = true) :
    grant s = { s with link := { s.link.withdraw r with
      port := accessFor s r, age := 0, order := above ++ below ++ [r] } } := by
  have hfind : s.link.order.find? s.link.waits = some r :=
    List.find?_eq_some_iff_append.mpr ⟨hr, above, below, ho, fun x hx => by rw [habove x hx]; rfl⟩
  rw [grant_given hn hfind, ho, order_without (ho ▸ hnodup)]

/-- A free port goes to the one requester that waits. -/
theorem grant_sole {s : State} {r : Requester} (hn : s.link.port = none) (hmem : r ∈ s.link.order)
    (hr : s.link.waits r = true) (hothers : ∀ x, x ≠ r → s.link.waits x = false) :
    (grant s).link.port = accessFor s r := by
  cases hfind : s.link.order.find? s.link.waits with
  | none => exact absurd hr (List.find?_eq_none.mp hfind r hmem)
  | some x =>
    have hx : x = r := Decidable.byContradiction fun hne =>
      Bool.false_ne_true ((hothers x hne).symm.trans (List.find?_some hfind))
    rw [grant_given hn hfind, hx]

/-- Nobody waits, so nobody is granted. -/
theorem grant_unwanted {s : State} (h : ∀ r, s.link.waits r = false) : grant s = s := by
  cases hp : s.link.port with
  | some a => exact grant_taken hp
  | none => exact grant_idle hp (List.find?_eq_none.mpr fun r _ => by rw [h r]; exact Bool.false_ne_true)

/-- Settles O44, from what the arbiter makes of the highest requester that waits. -/
theorem grantFollowsTheOrder : Obligations.GrantFollowsTheOrder := by
  intro s hperm
  refine ⟨fun htaken => ?_, grant_unwanted, ?_⟩
  · obtain ⟨a, ha⟩ := Option.ne_none_iff_exists'.mp htaken
    exact grant_taken ha
  · intro above below r hn ho habove hr
    have hnodup : s.link.order.Nodup := hperm.nodup_iff.mpr (by decide)
    rw [grant_highest hn hnodup ho habove hr]
    have hwaits : ∀ x, Link.waits { s.link.withdraw r with
        port := accessFor s r, age := 0, order := above ++ below ++ [r] } x = (s.link.waits x && x != r) :=
      fun x => by rw [← s.link.withdraw_waits r x]; exact congrFun (Link.waits_congr rfl rfl rfl) x
    refine ⟨rfl, rfl, rfl, rfl, ?_, fun x hx => ?_, ?_⟩
    · rw [hwaits, bne_self_eq_false, Bool.and_false]
    · rw [hwaits, bne_iff_ne.mpr hx, Bool.and_true]
    · cases r <;> exact ⟨rfl, rfl, rfl⟩

/-! ## Pass-through memory (R150, R151, R155) -/

/-- A write into pass-through memory goes to the posted-write buffer. -/
theorem execPostedWrite_passThrough {s : State} {t : WriteTxn} (hfree : UpstreamFree s)
    (hpass : PassThrough s t.addr) (haligned : t.aligned = true) :
    exec (.postedWrite t) s = .next (postWrite t s) := by
  show Host.Outcome.next (takeUpstream (decideWrite t) s) = _
  rw [takeUpstream_free hfree, decideWrite, if_pos haligned, classify_passThrough hpass]

/-- Without room in the buffer a write is retried. -/
theorem postWrite_full {s : State} (h : 8 ≤ s.link.posted.length) (t : WriteTxn) :
    postWrite t s = respond .retry s :=
  if_neg ((not_congr (bufferRoom_iff s)).mpr (Nat.not_lt.mpr h))

/-- Reads of pass-through memory, of the plan area and of the drop ring are passed on. -/
theorem decideRead_passedOn {s : State} {t : ReadTxn} (haligned : t.aligned = true)
    (h : PassThrough s t.addr ∨ ∃ off, At s t.addr off ∧ off < 0x10400) : decideRead t s = forwardRead t s := by
  rw [decideRead, if_pos haligned]
  rcases h with hpass | ⟨off, hat, hoff⟩
  · rw [classify_passThrough hpass]
  · by_cases hplan : off < 0x10000
    · rw [classify_plan hat hplan]
    · rw [classify_drop hat (Nat.not_lt.mp hplan) hoff]

theorem execForwardedRead_eq {s : State} (h : UpstreamFree s) (t : ReadTxn) :
    exec (.forwardedRead t) s = .next (decideRead t s) :=
  congrArg Host.Outcome.next (takeUpstream_free h (decideRead t))

/-- The state with a read in progress that requests the port. -/
def State.forwarding (t : ReadTxn) (s : State) : State :=
  { s with link := { s.link with forwarded := some t, reqRead := true }, answer := none }

theorem forwardRead_covered {s : State} {t : ReadTxn} (h : ∃ w ∈ s.link.posted, Overlaps w t) :
    forwardRead t s = respond .retry s := if_pos ((bufferCovers_iff s t).mpr h)

theorem forwardRead_clear {s : State} {t : ReadTxn} (h : ∀ w ∈ s.link.posted, ¬ Overlaps w t) :
    forwardRead t s = grant (s.forwarding t) :=
  if_neg fun hc => have ⟨w, hw, ho⟩ := (bufferCovers_iff s t).mp hc; h w hw ho

/-- The arbiter leaves the read in progress as it is. -/
theorem grant_forwarded (s : State) : (grant s).link.forwarded = s.link.forwarded :=
  have ⟨_, hmoves, _⟩ := grant_arbitrated s
  (congrArg Link.forwarded hmoves).trans rfl

/-- While the port is free nobody waits, so a read has it at once. -/
theorem grant_forwarding_free {s : State} (hinv : LinkInv s) (hn : s.link.port = none) (t : ReadTxn) :
    (grant (s.forwarding t)).link.port = some (.read t) := by
  refine grant_sole (s := s.forwarding t) (r := .read) hn ?_ rfl fun x hx => ?_
  · exact hinv.order.mem_iff.mpr (by decide)
  · rw [← hinv.granted hn x]
    cases x
    case read => exact absurd rfl hx
    all_goals rfl

/-- Settles O37: a write by the room in the buffer, a read by the overlap with it. -/
theorem passThroughTransactionsAreTaken : Obligations.PassThroughTransactionsAreTaken := by
  intro s hfree
  refine ⟨fun t hpass haligned => ?_, fun t haligned hrange => ?_⟩
  · rw [execPostedWrite_passThrough hfree hpass haligned]
    refine ⟨fun hroom => ⟨_, rfl, postWrite_accepted ((bufferRoom_iff s).mpr hroom) t⟩, fun hfull => ?_⟩
    rw [postWrite_full hfull]
    rfl
  · rw [execForwardedRead_eq hfree, decideRead_passedOn haligned hrange]
    refine ⟨fun hcovered => by rw [forwardRead_covered hcovered]; rfl, fun hclear => ?_⟩
    rw [forwardRead_clear hclear]
    have hframe : grant (s.forwarding t) = { s with link := (grant (s.forwarding t)).link, answer := none } := by
      obtain ⟨l, hl⟩ := grant_frame (s.forwarding t)
      rw [hl]
      rfl
    refine ⟨_, rfl, hframe, grant_forwarded _, grant_arbitrated _,
      fun hinv hn => grant_forwarding_free hinv hn t, fun a ha => ?_⟩
    rw [grant_taken (s := s.forwarding t) ha]
    exact ⟨ha, rfl⟩

/-! ## Refused transactions (R149, R160, R161, R166) -/

/-- The address lies in the status block (R150). -/
def State.inStatusBlock (s : State) (a : Addr) : Bool :=
  decide (s.pins.anchor.toNat * 2097152 + 0x10400 ≤ a.toNat ∧ a.toNat < s.pins.anchor.toNat * 2097152 + 0x10440)

theorem classify_inStatusBlock {s : State} {a : Addr} (h : s.inStatusBlock a = true) :
    ∃ off, classify s.pins.anchor a = .status off := by
  obtain ⟨hlow, hhigh⟩ := of_decide_eq_true h
  have hat : At s a (a.toNat - s.pins.anchor.toNat * 2097152) := by
    unfold At
    omega
  exact ⟨_, classify_status hat (by omega) (by omega)⟩

theorem classify_ne_status {s : State} {a : Addr} (h : s.inStatusBlock a = false) (off : Nat) :
    classify s.pins.anchor a ≠ .status off := by
  have hout := of_decide_eq_false h
  by_cases hlow : a.toNat < s.pins.anchor.toNat * 2097152
  · rw [classify_passThrough (.inl hlow)]
    exact Region.noConfusion
  · have hat : At s a (a.toNat - s.pins.anchor.toNat * 2097152) := by
      unfold At
      omega
    rw [classify_at hat]
    repeat' split
    case isFalse.isFalse.isTrue => omega
    all_goals exact Region.noConfusion

/-- A misaligned write is refused, and into the status block it disarms. -/
theorem decideWrite_misaligned {t : WriteTxn} (haligned : t.aligned = false) (s : State) :
    decideWrite t s = { s with
      answer := some .refuse
      status := { s.status with armed := s.status.armed && !s.inStatusBlock t.addr } } := by
  rw [decideWrite, haligned]
  cases hin : s.inStatusBlock t.addr with
  | true =>
    obtain ⟨off, hoff⟩ := classify_inStatusBlock hin
    rw [hoff, Bool.not_true, Bool.and_false]
    rfl
  | false =>
    rw [Bool.not_false, Bool.and_true]
    cases hregion : classify s.pins.anchor t.addr
    case status off => exact absurd hregion (classify_ne_status hin off)
    all_goals rfl

/-- A misaligned read is refused. -/
theorem decideRead_misaligned {t : ReadTxn} (haligned : t.aligned = false) (s : State) :
    decideRead t s = respond .refuse s := by
  rw [decideRead, haligned]
  rfl

/-- A write to a read-only word of the status block is refused and disarms (R166, R182). -/
theorem statusWrite_readOnly {i : Nat} (h : i ∈ [0, 1, 8, 9, 10, 12, 13, 14, 15]) (v : Word) (s : State) :
    statusWrite i v s = respond .refuse (disarm s) := by
  simp only [List.mem_cons, List.not_mem_nil, or_false] at h
  rcases h with rfl | rfl | rfl | rfl | rfl | rfl | rfl | rfl | rfl <;> rfl

/-- A status-block write of the wrong form, or to a read-only word, is refused and disarms (R160, R166). -/
theorem statusBlockWrite_refused {t : WriteTxn} {off : Nat}
    (h : t.len ≠ .w1 ∨ t.enables ≠ [15] ∨ (off - 0x10400) / 4 ∈ [0, 1, 8, 9, 10, 12, 13, 14, 15]) (s : State) :
    statusBlockWrite t off s = respond .refuse (disarm s) := by
  unfold statusBlockWrite
  split
  case isTrue hform =>
    obtain ⟨hlen, henables⟩ := hform
    rcases h with h | h | h
    · exact absurd hlen h
    · exact absurd ((fullEnables_w1 hlen).mp henables) h
    · exact statusWrite_readOnly h _ s
  case isFalse => rfl

/-- Settles O39, by the row, a misaligned write by where it starts. -/
theorem refusedAtTheDecision : Obligations.RefusedAtTheDecision := by
  intro s hfree
  refine ⟨fun t haligned => ?_, fun t off hat haligned hlow hhigh => ?_,
    fun t off hat haligned hlow hhigh hform => ?_⟩
  · show Host.Outcome.next (takeUpstream (decideTxn t) s) = _
    rw [takeUpstream_free hfree]
    cases t with
    | write w => exact congrArg _ (decideWrite_misaligned haligned s)
    | read r =>
      rw [Bool.not_false, Bool.and_true]
      exact congrArg _ (decideRead_misaligned haligned s)
  · show Host.Outcome.next (takeUpstream (decideWrite t) s) = _
    rw [takeUpstream_free hfree, decideWrite, if_pos haligned, classify_account hat hlow hhigh]
    rfl
  · show Host.Outcome.next (takeUpstream (decideWrite t) s) = _
    rw [takeUpstream_free hfree, decideWrite, if_pos haligned, classify_status hat hlow hhigh]
    exact congrArg _ (statusBlockWrite_refused hform s)

end Sys2Proof.Machine
end

section
/-! SUPPORT. What a read of the status block or the account window shows (R160, R161, R162, R182, R183). -/

namespace Sys2Proof.Machine

/-! ## Codes in the manual's order (R182, R183) -/

theorem flag_eq_toNat (b : Bool) : flag b = b.toNat := by cases b <;> rfl

theorem sourceCode_eq (x : Source) : sourceCode x = codeIn [.irc, .xtal, .tref] x := by cases x <;> rfl

theorem requestCode_eq (x : Option Source) :
    requestCode x = codeIn [none, some .irc, some .xtal, some .tref] x := by
  cases x with
  | none => rfl
  | some y => cases y <;> rfl

theorem SwitchState.code_eq (x : SwitchState) : x.code = codeIn [.idle, .settling, .settled] x := by cases x <;> rfl

theorem SwitchOutcome.code_eq (x : SwitchOutcome) : x.code = codeIn [.none, .switched, .switchFailed] x := by
  cases x <;> rfl

theorem Quality.code_eq (x : Quality) : x.code = codeIn [.unset, .good, .degraded] x := by cases x <;> rfl

theorem ChannelState.code_eq (x : ChannelState) : x.code = codeIn channelStates x := by cases x <;> rfl

theorem ChannelOutcome.code_eq (x : ChannelOutcome) : x.code = codeIn channelOutcomes x := by cases x <;> rfl

theorem CmdOutcome.code_eq (x : CmdOutcome) : x.code = codeIn outcomeCodes x := by cases x <;> rfl

theorem Occupancy.code_eq (x : Occupancy) :
    x.code = codeIn [.vacant, .opening, .occupied, .closing, .closed] x := by cases x <;> rfl

theorem MeterState.code_eq (x : MeterState) :
    x.code = codeIn [.unused, .unseen, .live, .estimating, .stale] x := by cases x <;> rfl

theorem ReadingOutcome.code_eq (x : ReadingOutcome) : x.code = codeIn [.none, .baseline, .taken, .duplicate,
    .unknownMeter, .doubtful, .outOfRange, .backward, .implausible] x := by cases x <;> rfl

theorem MeterKind.code_eq (x : MeterKind) : x.code = codeIn [.unused, .unit, .zone, .plant] x := by cases x <;> rfl

theorem mediumCode_eq (x : Medium) : mediumCode x = codeIn [.heat, .cool] x := by cases x <;> rfl

/-! ## The words and records shown -/

/-- The 16 words of the status block (R182). -/
theorem statusWords_shown (s : State) : (List.range 16).map (statusWord s) =
    [0x41200001,
      wordOf [(0, 1, (s.status.mode == .running).toNat), (1, 1, s.close.isSome.toNat),
        (2, 2, codeIn [.irc, .xtal, .tref] s.clock.current),
        (4, 2, codeIn [none, some .irc, some .xtal, some .tref] s.clock.requested),
        (6, 2, codeIn [.idle, .settling, .settled] s.clock.switch),
        (8, 2, codeIn [.none, .switched, .switchFailed] s.clock.lastSwitch),
        (10, 2, codeIn [.unset, .good, .degraded] s.clock.quality),
        (12, 1, (s.plan.header.lockEnable && s.pins.planLock).toNat), (13, 1, s.pins.planLock.toNat)],
      s.status.causes.setWidth 32, s.status.mask.setWidth 32,
      wordOf [(0, 8, s.status.command.code.toNat), (8, 8, codeIn outcomeCodes s.status.command.outcome),
        (16, 12, s.status.command.detail.toNat)],
      wordOf [(0, 8, s.status.unitCommand.code.toNat), (8, 8, s.status.unitCommand.slot.val),
        (16, 8, codeIn outcomeCodes s.status.unitCommand.outcome)],
      s.clock.time, BitVec.ofInt 32 s.clock.adjust,
      wordOf [(0, 7, s.capture.queue.length), (8, 6, s.changes.length)],
      wordOf [(0, 2, codeIn channelStates s.out.chanI.state), (2, 2, codeIn channelOutcomes s.out.chanI.outcome),
        (8, 2, codeIn channelStates s.out.chanP.state), (10, 2, codeIn channelOutcomes s.out.chanP.outcome),
        (16, 3, s.out.holding.length)],
      wordOf [(0, 11, s.out.w.toNat), (16, 12, s.out.u)], s.out.x.setWidth 32,
      wordOf [(0, 16, s.link.discarded.toNat), (16, 16, s.out.lost.toNat)],
      wordOf [(0, 16, s.capture.rejects.toNat), (16, 3, codeIn outcomeCodes s.rejection.code),
        (20, 12, s.rejection.entry.toNat)],
      wordOf [(0, 16, s.period.number.toNat), (16, 1, s.period.pending.toNat),
        (17, 9, s.snapshots.toList.countP (·.isSome)), (26, 1, s.period.trailer.isSome.toNat)],
      wordOf [(0, 23, s.clock.nextBoundary.toNat / 900), (23, 9, s.clock.seq.toNat)]] := by
  show [statusWord s 0, stateWord s, statusWord s 2, statusWord s 3, statusWord s 4, statusWord s 5, statusWord s 6,
    statusWord s 7, statusWord s 8, channelsWord s, statusWord s 10, statusWord s 11, statusWord s 12,
    statusWord s 13, periodWord s, statusWord s 15] = _
  unfold stateWord channelsWord periodWord
  simp (disch := simp [fieldsFit]) only [statusWord, packWord_eq, flag_eq_toNat, sourceCode_eq, requestCode_eq,
    SwitchState.code_eq, SwitchOutcome.code_eq, Quality.code_eq, ChannelState.code_eq, ChannelOutcome.code_eq,
    CmdOutcome.code_eq]
  rfl

theorem figureWords_shown (f : Figures) : figureWords f = shownFigures f := by
  simp only [figureWords, shownFigures, words64_eq]

theorem State.finalPending_eq (s : State) (u : UnitId) : s.finalPending u = s.snapshots[u].any (·.final) := by
  unfold State.finalPending
  cases s.snapshots[u] <;> rfl

theorem unitRecord_shown (s : State) (u : UnitId) : unitRecord s u =
    [wordOf [(0, 3, codeIn [.vacant, .opening, .occupied, .closing, .closed] s.occ[u].state),
        (3, 1, s.occ[u].openedOnEstimate.toNat), (4, 1, s.occ[u].finalsForced.toNat),
        (5, 1, s.snapshots[u].isSome.toNat), (6, 1, (s.snapshots[u].any (·.final)).toNat),
        (8, 4, s.occ[u].deadline), (16, 10, s.occ[u].outstanding)],
      wordOf [(0, 16, s.occ[u].tenancy.toNat), (16, 16, s.plan.units[u].area.toNat)], s.occ[u].openedAt,
      s.occ[u].closeCmdAt, wordOf [(0, 8, s.plan.units[u].tariff.val)], 0] ++
      shownFigures s.accounts[u].heat ++ shownFigures s.accounts[u].cool := by
  unfold unitRecord
  simp (disch := simp [fieldsFit]) only [packWord_eq, flag_eq_toNat, Occupancy.code_eq, State.finalPending_eq,
    figureWords_shown]

theorem meterRecord_shown (s : State) (m : MeterId) : meterRecord s m =
    [wordOf [(0, 3, codeIn [.unused, .unseen, .live, .estimating, .stale] s.live[m].state),
        (3, 4, codeIn [.none, .baseline, .taken, .duplicate, .unknownMeter, .doubtful, .outOfRange, .backward,
          .implausible] s.live[m].lastOutcome),
        (7, 1, s.live[m].mark.toNat), (8, 6, s.live[m].lastSlot.toNat), (14, 1, s.live[m].skewed.toNat),
        (15, 1, s.live[m].fresh.toNat), (16, 1, s.live[m].suspect.toNat), (17, 7, min s.live[m].missed.toNat 127),
        (24, 2, codeIn [.unused, .unit, .zone, .plant] s.plan.meters[m].kind),
        (26, 1, codeIn [.heat, .cool] s.plan.meters[m].medium)],
      s.live[m].lastCounter, s.live[m].lastCapture, s.live[m].lastTag, wordOf [(0, 22, s.live[m].rate)],
      BitVec.ofNat 32 s.live[m].debt, BitVec.ofInt 32 s.live[m].attributed,
      nearest32 (s.live[m].actual + s.live[m].estimated + s.live[m].correction)] := by
  unfold meterRecord
  simp (disch := simp [fieldsFit]) only [packWord_eq, flag_eq_toNat, MeterState.code_eq, ReadingOutcome.code_eq,
    MeterKind.code_eq, mediumCode_eq, clampField32_eq]

/-- Zone 30 is HEAT and zone 31 COOL; a common zone is of its entry's medium (R13). -/
theorem zoneMediumCode_eq (p : Plan) (z : ZoneId) : mediumCode (p.zoneMedium z) =
    if z.val = 30 then 0 else if z.val = 31 then 1 else codeIn [.heat, .cool] p.zones[z].medium := by
  unfold Plan.zoneMedium
  split
  · rfl
  · split
    · rfl
    · exact mediumCode_eq _

theorem zoneRecord_shown (s : State) (z : ZoneId) : zoneRecord s z =
    [wordOf [(0, 1, s.plan.zones[z].enable.toNat),
        (1, 1, if z.val = 30 then 0 else if z.val = 31 then 1 else codeIn [.heat, .cool] s.plan.zones[z].medium),
        (8, 24, min (weight (s.plan.members z)) 16777215)],
      wordOf [(0, 11, s.zoneWork[z].pointer.val), (16, 12, (s.plan.members z).length)]] ++
      lowHigh s.zoneWork[z].carry := by
  unfold zoneRecord
  simp (disch := simp [fieldsFit]) only [packWord_eq, flag_eq_toNat, zoneMediumCode_eq, words64_eq]

/-! ## The words of the account window by record (R161) -/

/-- A word within a record's length is read without the default. -/
theorem some_getD {l : List Word} {i : Nat} (h : i < l.length) : some (l.getD i 0) = l[i]? := by
  rw [List.getD_eq_getElem?_getD, List.getElem?_eq_getElem h, Option.getD_some]

theorem accountWord_unit (s : State) (u : UnitId) {i : Nat} (hi : i < 32) :
    some (accountWord s (32 * u.val + i)) = (unitRecord s u)[i]? := by
  have hu := u.isLt
  have hrecord : Fin.ofNat 256 ((32 * u.val + i) / 32) = u := Fin.ext (by rw [Fin.val_ofNat]; omega)
  have hword : (32 * u.val + i) % 32 = i := by omega
  rw [accountWord, if_pos (by omega), hrecord, hword]
  exact some_getD hi

theorem accountWord_meter (s : State) (m : MeterId) {i : Nat} (hi : i < 8) :
    some (accountWord s (8192 + 8 * m.val + i)) = (meterRecord s m)[i]? := by
  have hm := m.isLt
  have hrecord : Fin.ofNat 512 ((8192 + 8 * m.val + i - 8192) / 8) = m := Fin.ext (by rw [Fin.val_ofNat]; omega)
  have hword : (8192 + 8 * m.val + i) % 8 = i := by omega
  rw [accountWord, if_neg (by omega), if_pos (by omega), hrecord, hword]
  exact some_getD hi

theorem accountWord_zone (s : State) (z : ZoneId) {i : Nat} (hi : i < 4) :
    some (accountWord s (12288 + 4 * z.val + i)) = (zoneRecord s z)[i]? := by
  have hz := z.isLt
  have hrecord : Fin.ofNat 32 ((12288 + 4 * z.val + i - 12288) / 4) = z := Fin.ext (by rw [Fin.val_ofNat]; omega)
  have hword : (12288 + 4 * z.val + i) % 4 = i := by omega
  rw [accountWord, if_neg (by omega), if_neg (by omega), hrecord, hword]
  exact some_getD hi

/-! ## The claimed reads (R160, R162) -/

theorem readWords_length (word : Nat → Word) (i n : Nat) : (readWords word i n).length = n := by
  rw [readWords, List.length_map, List.length_range]

theorem readWords_getElem? {word : Nat → Word} {i n j k : Nat} (hj : j < n) (hk : i + j = k) :
    (readWords word i n)[j]? = some (word k) := by
  rw [readWords, List.getElem?_map, List.getElem?_range hj, Option.map_some, hk]

theorem words_le_eight (l : Len) : l.words ≤ 8 := by cases l <;> decide

theorem decideRead_status {s : State} {t : ReadTxn} {off : Nat} (hat : At s t.addr off) (haligned : t.aligned = true)
    (hlow : 0x10400 ≤ off) (hhigh : off < 0x10440) : decideRead t s =
      respond (.accept (readWords (statusWord s) ((off - 0x10400) / 4) t.len.words)) s := by
  rw [decideRead, if_pos haligned, classify_status hat hlow hhigh]

theorem decideRead_account {s : State} {t : ReadTxn} {off : Nat} (hat : At s t.addr off) (haligned : t.aligned = true)
    (hlow : 0x11000 ≤ off) (hhigh : off < 0x1D200) : decideRead t s =
      respond (.accept (readWords (accountWord s) ((off - 0x11000) / 4) t.len.words)) s := by
  rw [decideRead, if_pos haligned, classify_account hat hlow hhigh]

/-- A claimed read is accepted with the words at its addresses: those of the status block by their index, those of the
account window counted from its start. -/
theorem decideRead_claimed {s : State} {t : ReadTxn} {off : Nat} (hat : At s t.addr off) (haligned : t.aligned = true)
    (hrange : (0x10400 ≤ off ∧ off < 0x10440) ∨ (0x11000 ≤ off ∧ off < 0x1D200)) : ∃ data,
    decideRead t s = respond (.accept data) s ∧ data.length = t.len.words ∧
    (∀ j i, j < t.len.words → i < 16 → off + 4 * j = 0x10400 + 4 * i → data[j]? = some (statusWord s i)) ∧
    (∀ j k, j < t.len.words → off + 4 * j = 0x11000 + 4 * k → data[j]? = some (accountWord s k)) := by
  have hlen := words_le_eight t.len
  rcases hrange with ⟨hlow, hhigh⟩ | ⟨hlow, hhigh⟩
  · refine ⟨_, decideRead_status hat haligned hlow hhigh, readWords_length _ _ _,
      fun j i hj hi hplace => readWords_getElem? hj ?_, fun j k hj hplace => ?_⟩
    all_goals omega
  · refine ⟨_, decideRead_account hat haligned hlow hhigh, readWords_length _ _ _,
      fun j i hj hi hplace => ?_, fun j k hj hplace => readWords_getElem? hj ?_⟩
    all_goals omega

/-- Settles O40: the words answered stand at their addresses, and each shows the fields of its record. -/
theorem claimedReadsShowTheState : Obligations.ClaimedReadsShowTheState := by
  intro s t off hfree hat haligned hrange
  obtain ⟨data, hread, hlength, hstatus, haccount⟩ := decideRead_claimed hat haligned hrange
  refine ⟨data, by rw [execForwardedRead_eq hfree, hread]; rfl, hlength, fun j i hj hi hplace => ?_,
    fun j i u r hj hi hr hplace => ?_, fun j i m l hj hi hl hplace => ?_, fun j i z hj hi hplace => ?_⟩
  · rw [hstatus j i hj hi hplace, ← statusWords_shown, List.getElem?_map, List.getElem?_range hi, Option.map_some]
  · rw [haccount j (32 * u.val + i) hj (by omega), accountWord_unit s u hi, unitRecord_shown, hr]
  · rw [haccount j (8192 + 8 * m.val + i) hj (by omega), accountWord_meter s m hi, meterRecord_shown, hl]
  · rw [haccount j (12288 + 4 * z.val + i) hj (by omega), accountWord_zone s z hi, zoneRecord_shown]

end Sys2Proof.Machine
end

section
/-! SUPPORT. The writes to CAUSE and MASK (R176, R177), and the commands START, CLEAR_ARM and CLEAR (R169, R172 to
R175). -/

namespace Sys2Proof.Machine

/-! ## The CALL line (R177) -/

/-- The causes in the order of their bits (R182). -/
def causesByBit : List Cause :=
  [.queueHalf, .queueFull, .intervalClosed, .periodWritten, .writeoutFault, .ringFull, .summaryLost, .readingRejected,
   .meterStale, .unitAwaiting, .unitChanged, .planRejected, .clockFail, .clockEvent, .memoryFault]

/-- Every bit of CAUSE and MASK belongs to a cause. -/
theorem Cause.exists_bit {i : Nat} (h : i < 15) : ∃ c : Cause, c.bit = i := by
  have hall : ∀ j : Fin 15, ∃ c ∈ causesByBit, c.bit = j.val := by decide
  obtain ⟨c, _, hc⟩ := hall ⟨i, h⟩
  exact ⟨c, hc⟩

/-- CALL is asserted while a cause is both set and enabled. -/
theorem State.call_iff (s : State) :
    s.call = true ↔ ∃ c : Cause, s.causeSet c = true ∧ s.status.mask.getLsbD c.bit = true := by
  have hcauses (c : Cause) : (s.status.causes &&& s.status.mask).getLsbD c.bit =
      (s.causeSet c && s.status.mask.getLsbD c.bit) := BitVec.getLsbD_and
  simp only [← Bool.and_eq_true, ← hcauses]
  rw [State.call, bne_iff_ne]
  constructor
  · intro hne
    refine Classical.byContradiction fun hnone => hne (BitVec.eq_of_getLsbD_eq fun i hi => ?_)
    obtain ⟨c, rfl⟩ := Cause.exists_bit hi
    exact (Bool.eq_false_iff.mpr fun hset => hnone ⟨c, hset⟩).trans BitVec.getLsbD_zero.symm
  · rintro ⟨c, hset⟩ hzero
    rw [hzero] at hset
    exact Bool.false_ne_true (BitVec.getLsbD_zero.symm.trans hset)

/-! ## CAUSE and MASK (R166, R176, R177) -/

theorem execCauseWrite_eq {s : State} (h : UpstreamFree s) (v : Word) :
    exec (.causeWrite v) s = .next (writeCause v (disarm s)) :=
  congrArg Host.Outcome.next (takeUpstream_free h _)

theorem execMaskWrite_eq {s : State} (h : UpstreamFree s) (v : Word) :
    exec (.maskWrite v) s = .next (writeMask v (disarm s)) :=
  congrArg Host.Outcome.next (takeUpstream_free h _)

/-- A CAUSE write clears the causes written as ones. -/
theorem writeCause_causeSet (v : Word) (s : State) (c : Cause) :
    (writeCause v s).causeSet c = (s.causeSet c && !v.getLsbD c.bit) := by
  have hbit := c.bit_lt
  simp [State.causeSet, writeCause, hbit]

/-- A cause is enabled by a MASK write where the written word holds a one for it. -/
theorem writeMask_enabled (v : Word) (s : State) (c : Cause) :
    (writeMask v s).status.mask.getLsbD c.bit = v.getLsbD c.bit := by
  have hbit := c.bit_lt
  simp [writeMask, hbit]

/-- Settles O52: what each write makes of the causes and the mask, and CALL read from them. -/
theorem causeAndMaskWritesMoveTheCallLine : Obligations.CauseAndMaskWritesMoveTheCallLine := by
  intro s v hfree
  rw [execCauseWrite_eq hfree, execMaskWrite_eq hfree]
  refine ⟨⟨_, rfl, rfl, writeCause_causeSet v (disarm s), State.call_iff _⟩, ⟨_, rfl, rfl, ?_⟩⟩
  rw [State.call_iff]
  simp only [writeMask_enabled]
  rfl

/-! ## START (R169, R170) -/

theorem execStart_eq {s : State} (h : UpstreamFree s) : exec .start s = .next (commandStart (disarm s)) :=
  congrArg Host.Outcome.next (takeUpstream_free h _)

theorem startOutcome_running {s : State} (h : s.status.mode = .running) : startOutcome s = (.wrongMode, 0) :=
  if_pos (s.running_iff.mpr h)

theorem startOutcome_unset {s : State} (hm : s.status.mode = .loading) (hq : s.clock.quality = .unset) :
    startOutcome s = (.timeUnset, 0) := by
  rw [startOutcome, State.running_of_loading hm, if_pos hq]
  rfl

/-- In LOADING with the time set START is judged by the plan alone. -/
theorem startOutcome_plan {s : State} (hm : s.status.mode = .loading) (hq : s.clock.quality ≠ .unset) :
    startOutcome s = (startFailure s.plan).getD (.done, 0) := by
  rw [startOutcome, State.running_of_loading hm, if_neg hq]
  cases startFailure s.plan <;> rfl

theorem commandStart_refused {s : State} {f : CmdOutcome × Nat} (h : startOutcome s = f) (hf : f.1 ≠ .done) :
    commandStart s = finishCommand 1 f.1 f.2 s := by
  rw [commandStart, h]
  exact congrArg _ (if_neg hf)

theorem commandStart_done {s : State} (h : startOutcome s = (.done, 0)) :
    commandStart s = finishCommand 1 .done 0 (startEffect s) := by
  rw [commandStart, h]
  exact congrArg _ (if_pos rfl)

/-- A failing plan is never answered DONE (R170). -/
theorem startFailure_ne_done {p : Plan} {f : CmdOutcome × Nat} (h : startFailure p = some f) : f.1 ≠ .done := by
  obtain ⟨_, hfails⟩ := startChecksTheWholePlan p
  obtain ⟨hcode, _⟩ := (hfails f.1 f.2).mp h
  exact hcode.ne_done

/-- Settles O53, condition by condition; the frame of an accepted START is `startEffect`'s own. -/
theorem startEntersRunning : Obligations.StartEntersRunning := by
  intro s hfree
  rw [execStart_eq hfree]
  refine ⟨fun hm => ?_, fun hm hq => ?_, fun f hm hq hf => ?_, fun hm hq hf => ⟨_, rfl, ?_⟩⟩
  · rw [commandStart_refused (startOutcome_running (s := disarm s) hm) (by decide)]
    rfl
  · rw [commandStart_refused (startOutcome_unset (s := disarm s) hm hq) (by decide)]
    rfl
  · have houtcome : startOutcome (disarm s) = f :=
      (startOutcome_plan (s := disarm s) hm hq).trans (congrArg (·.getD (.done, 0)) hf)
    rw [commandStart_refused houtcome (startFailure_ne_done hf)]
    rfl
  · have houtcome : startOutcome (disarm s) = (.done, 0) :=
      (startOutcome_plan (s := disarm s) hm hq).trans (congrArg (·.getD (.done, 0)) hf)
    rw [commandStart_done houtcome]
    exact ⟨rfl, s.nextGrid_spec s.clock.time⟩

/-! ## CLEAR_ARM and CLEAR as they are taken (R172, R173) -/

theorem execClearArm_eq {s : State} (h : UpstreamFree s) :
    exec .clearArm s = .next (commandClearArm (disarm s)) :=
  congrArg Host.Outcome.next (takeUpstream_free h _)

/-- CLEAR is judged by the clear-arm flag as the write finds it. -/
theorem execClear_eq {s : State} (h : UpstreamFree s) :
    exec .clear s = .next (commandClear s.status.armed (disarm s)) :=
  congrArg Host.Outcome.next (takeUpstream_free h _)

theorem clearOutcome_eq (armed : Bool) (s : State) : clearOutcome armed s =
    if armed = false then .wrongState
    else if s.close ≠ none then .busy
    else if s.locked = true then .locked
    else .done := by
  have hclosing : s.closing = true ↔ s.close ≠ none := Option.isSome_iff_ne_none
  simp only [clearOutcome, hclosing]

theorem commandClear_refused {armed : Bool} {s : State} {o : CmdOutcome} (h : clearOutcome armed s = o)
    (ho : o ≠ .done) : commandClear armed s = finishCommand 3 o 0 s := by
  rw [commandClear, h, if_neg ho]

theorem commandClear_done {armed : Bool} {s : State} (h : clearOutcome armed s = .done) :
    commandClear armed s = finishCommand 3 .done 0 (clearEffect s) := by
  rw [commandClear, h, if_pos rfl]

/-! ## The cancelled channel (R143, R144, R164) -/

theorem cancelActive_idle {s : State} (h : s.out.active = none) : cancelActive s = s := by
  rw [cancelActive, h]

/-- The ACTIVE channel is cancelled, its record gone and its request or burst dropped. -/
theorem cancelActive_active {s : State} {c : Channel} (h : s.out.active = some c) : ∃ sn, cancelActive s = { s with
    link := s.link.dropWriteOut, snapshots := sn
    out := { s.out.setChan c { state := .idle, outcome := .cancelled } with record := none } } := by
  obtain ⟨sn, hkeep⟩ := keepItem_frame { s with link := s.link.dropWriteOut }
  refine ⟨sn, ?_⟩
  rw [cancelActive, h]
  show abandonRecord c .cancelled { s with link := s.link.dropWriteOut } = _
  rw [abandonRecord, hkeep]

/-- A burst issued for the cancelled channel runs on, its answer disregarded. -/
theorem Link.dropWriteOut_burst {l : Link} {w : WriteTxn}
    (h : l.port = some (.firstBurst w) ∨ l.port = some (.secondBurst w)) :
    l.dropWriteOut.port = some (.disregarded (.write w)) := by
  rcases h with h | h <;> rw [Link.dropWriteOut, h]

/-- Any other access at the port stands. -/
theorem Link.dropWriteOut_other {l : Link}
    (h : ∀ w, l.port ≠ some (.firstBurst w) ∧ l.port ≠ some (.secondBurst w)) : l.dropWriteOut.port = l.port := by
  unfold Link.dropWriteOut
  split
  · next w hw => exact absurd hw (h w).1
  · next w hw => exact absurd hw (h w).2
  · rfl

/-- A cancellation moves the link at its port and at the write-out engine's request alone. -/
theorem cancelActive_link_frame (s : State) : { s.link with
    port := (cancelActive s).link.port, reqWriteOut := (cancelActive s).link.reqWriteOut } =
      (cancelActive s).link := by
  cases h : s.out.active with
  | none => rw [cancelActive_idle h]
  | some c =>
    obtain ⟨sn, hcancel⟩ := cancelActive_active h
    rw [hcancel]
    rfl

theorem cancelActive_port_burst {s : State} {w : WriteTxn} (hactive : s.out.active ≠ none)
    (h : s.link.port = some (.firstBurst w) ∨ s.link.port = some (.secondBurst w)) :
    (cancelActive s).link.port = some (.disregarded (.write w)) := by
  obtain ⟨c, hc⟩ := Option.ne_none_iff_exists'.mp hactive
  obtain ⟨sn, hcancel⟩ := cancelActive_active hc
  rw [hcancel]
  exact Link.dropWriteOut_burst h

theorem cancelActive_port_other {s : State}
    (h : ∀ w, s.link.port ≠ some (.firstBurst w) ∧ s.link.port ≠ some (.secondBurst w)) :
    (cancelActive s).link.port = s.link.port := by
  cases hc : s.out.active with
  | none => rw [cancelActive_idle hc]
  | some c =>
    obtain ⟨sn, hcancel⟩ := cancelActive_active hc
    rw [hcancel]
    exact Link.dropWriteOut_other h

/-- A channel at an accepted CLEAR: IDLE, its last outcome kept unless it was ACTIVE and is cancelled (R144). -/
def WriteOut.clearedChan (o : WriteOut) (c : Channel) : Chan :=
  { state := .idle, outcome := if o.active = some c then .cancelled else (o.chan c).outcome }

/-- The write-out engine at an accepted CLEAR: the queue emptied, both channels IDLE, no record being written; a free
engine is writing none already. -/
theorem cancelActive_cleared {s : State} (hidle : s.out.active = none → s.out.record = none) :
    (cancelActive s).out.cleared = { s.out with
      holding := [], record := none, chanI := s.out.clearedChan .i, chanP := s.out.clearedChan .p } := by
  cases h : s.out.active with
  | none =>
    rw [cancelActive_idle h, WriteOut.cleared, WriteOut.clearedChan, WriteOut.clearedChan, h, hidle h]
    rfl
  | some c =>
    obtain ⟨sn, hcancel⟩ := cancelActive_active h
    rw [hcancel, WriteOut.clearedChan, WriteOut.clearedChan, h]
    cases c <;> rfl

/-! ## An accepted CLEAR (R174, R175) -/

theorem Clock.cleared_eq (k : Clock) : k.cleared = { k with
    seq := 0, nextBoundary := nextGrid 900 k.time, adjust := if 2 * k.adjust.natAbs ≤ 900 then k.adjust else 0 } := by
  simp only [Clock.cleared, adjustInRange_iff]

/-- What an accepted CLEAR makes of the state, block by block. -/
theorem clearEffect_eq {s : State} (hidle : s.out.active = none → s.out.record = none) : clearEffect s = { s with
    status := { s.status with mode := .loading, armed := false }
    plan := Plan.initial, live := Vector.replicate 512 MeterLive.initial
    accounts := Vector.replicate 256 ⟨Figures.initial, Figures.initial⟩, snapshots := Vector.replicate 256 none
    occ := occInitial, zoneWork := Vector.replicate 32 { carry := 0, pointer := 0 }
    capture := { s.capture with queue := [], tallies := ⟨0, 0, 0⟩ }, changes := []
    rejection := { code := .none, entry := 0 }, period := { number := 0, pending := false, trailer := none }
    results := ChangeResults.initial
    clock := { s.clock with
      seq := 0, nextBoundary := nextGrid 900 s.clock.time
      adjust := if 2 * s.clock.adjust.natAbs ≤ 900 then s.clock.adjust else 0 }
    link := { s.link with
      port := (cancelActive s).link.port, reqWriteOut := (cancelActive s).link.reqWriteOut }
    out := { s.out with
      holding := [], record := none, chanI := s.out.clearedChan .i, chanP := s.out.clearedChan .p } } := by
  rw [← cancelActive_cleared hidle, cancelActive_link_frame, ← Clock.cleared_eq]
  obtain ⟨l, o, sn, hframe⟩ := cancelActive_frame s
  unfold clearEffect
  rw [hframe]

/-- Settles O55: CLEAR by its outcome, the effect of an accepted one block by block. -/
theorem clearReturnsTheBillingState : Obligations.ClearReturnsTheBillingState := by
  intro s hfree
  rw [execClearArm_eq hfree, execClear_eq hfree]
  refine ⟨rfl, fun o ho => ?_, fun harmed hclose hlocked hinv => ?_⟩
  · obtain ⟨houtcome, hne⟩ : clearOutcome s.status.armed (disarm s) = o ∧ o ≠ .done := by
      rw [clearOutcome_eq]
      rcases ho with ⟨harmed, rfl⟩ | ⟨harmed, hclose, rfl⟩ | ⟨harmed, hclose, hlocked, rfl⟩
      · exact ⟨if_pos harmed, nofun⟩
      · rw [harmed]
        exact ⟨if_pos hclose, nofun⟩
      · rw [harmed]
        exact ⟨(if_neg (not_not_intro hclose)).trans (if_pos hlocked), nofun⟩
    rw [commandClear_refused houtcome hne]
    rfl
  · have hdone : clearOutcome s.status.armed (disarm s) = .done := by
      rw [clearOutcome_eq, harmed]
      exact (if_neg (not_not_intro hclose)).trans (if_neg (Bool.eq_false_iff.mp hlocked))
    refine ⟨_, rfl, commandClear_cleared hdone, ?_⟩
    rw [commandClear_done hdone, clearEffect_eq (s := disarm s) hinv.noRecordFree]
    exact ⟨rfl, nextGrid_spec 900 (by decide) s.clock.time, getElem_replicate_fin _, getElem_replicate_fin _,
      fun c => by cases c <;> rfl,
      fun w hport hactive => cancelActive_port_burst (s := disarm s) hactive hport,
      fun hport => cancelActive_port_other (s := disarm s) hport⟩

end Sys2Proof.Machine
end

section
/-! SUPPORT. The queue of commands is the model's own (spec 00): a step takes the command at its front, and neither that
command nor an idle step touches what is left of it. Where an operation has a frame lemma (`_frame`, `_eq`), that names
what it changes, and the queue is not among it; the others are put together from those, branch by branch. -/

namespace Sys2Proof.Machine

/-! ## The port -/

@[simp] theorem raiseIf_pending (b : Bool) (c : Cause) (s : State) : (raiseIf b c s).pending = s.pending := by
  obtain ⟨_, h⟩ := raiseIf_frame b c s
  rw [h]

@[simp] theorem grant_pending (s : State) : (grant s).pending = s.pending := by
  obtain ⟨_, h⟩ := grant_frame s
  rw [h]

@[simp] theorem postWrite_pending (t : WriteTxn) (s : State) : (postWrite t s).pending = s.pending := by
  obtain ⟨_, _, h⟩ := postWrite_frame t s
  rw [h]

@[simp] theorem endDrain_pending (s : State) : (endDrain s).pending = s.pending := by
  obtain ⟨_, h⟩ := endDrain_frame s
  rw [h]

@[simp] theorem discardDrain_pending (s : State) : (discardDrain s).pending = s.pending := by
  obtain ⟨_, _, h⟩ := discardDrain_frame s
  rw [h]

@[simp] theorem endRead_pending (r : Response) (s : State) : (endRead r s).pending = s.pending := by
  obtain ⟨_, _, h⟩ := endRead_frame r s
  rw [h]

/-! ## Write-out -/

@[simp] theorem choose_pending (s : State) : (choose s).pending = s.pending := by
  obtain ⟨_, _, h⟩ := choose_frame s
  rw [h]

@[simp] theorem handWork_pending (c : Channel) (s : State) : (handWork c s).pending = s.pending := by
  obtain ⟨_, _, h⟩ := handWork_frame c s
  rw [h]

@[simp] theorem completeRecord_pending (c : Channel) (s : State) : (completeRecord c s).pending = s.pending := by
  obtain ⟨_, _, _, _, _, h⟩ := completeRecord_frame c s
  rw [h]

@[simp] theorem failRecord_pending (s : State) : (failRecord s).pending = s.pending := by
  obtain ⟨_, _, _, h⟩ := failRecord_frame s
  rw [h]

@[simp] theorem cancelActive_pending (s : State) : (cancelActive s).pending = s.pending := by
  obtain ⟨_, _, _, h⟩ := cancelActive_frame s
  rw [h]

@[simp] theorem exportRecords_pending (n : Nat) (s : State) : (exportRecords n s).pending = s.pending := by
  obtain ⟨_, _, h⟩ := exportRecords_frame n s
  rw [h]

/-! ## Accesses of the port that end -/

/-- A failed burst frees the port (R142, R157). -/
theorem failBurst_pending (s : State) : (grant (freePort (failRecord s))).pending = s.pending := by
  rw [grant_pending, freePort_pending, failRecord_pending]

@[simp] theorem timeoutAccess_pending (s : State) : (timeoutAccess s).pending = s.pending := by
  unfold timeoutAccess
  split
  · exact discardDrain_pending s
  · exact endRead_pending .refuse s
  · exact failBurst_pending s
  · exact failBurst_pending s
  · rw [grant_pending, freePort_pending]
  · rfl

@[simp] theorem linkPeriod_pending (s : State) : (linkPeriod s).pending = s.pending := by
  unfold linkPeriod
  split
  · rfl
  · split
    · rfl
    · exact timeoutAccess_pending s

/-! ## The close -/

@[simp] theorem runStage_pending (st : Stage) (s : State) : (runStage st s).pending = s.pending := by
  obtain ⟨_, _, _, _, _, _, _, _, _, _, _, _, _, h⟩ := runStage_frame st s
  rw [h]

@[simp] theorem finishClose_pending (s : State) : (finishClose s).pending = s.pending := by
  obtain ⟨_, _, _, _, _, _, _, _, _, _, _, _, _, h⟩ := finishClose_frame s
  rw [h]

@[simp] theorem beginClose_pending (b : Time) (s : State) : (beginClose b s).pending = s.pending :=
  raiseIf_pending _ .meterStale _

theorem boundaryEvent_pending (s : State) : (boundaryEvent s).pending = s.pending :=
  (beginClose_pending s.clock.time (finishClose s)).trans (finishClose_pending s)

/-! ## The billing clock -/

@[simp] theorem passSecond_pending (s : State) : (passSecond s).pending = s.pending := by
  unfold passSecond
  dsimp only
  split
  · split
    · exact boundaryEvent_pending _
    · rfl
  · rfl

@[simp] theorem completeSwitch_pending (s : State) : (completeSwitch s).pending = s.pending := by
  unfold completeSwitch
  split
  · rfl
  · rw [endSwitched_eq]

@[simp] theorem tickSecond_pending (s : State) : (tickSecond s).pending = s.pending := by
  rw [tickSecond_eq]
  split
  · rw [completeSwitch_pending, passSecond_pending]
  · exact passSecond_pending s

@[simp] theorem secondEdge_pending (s : State) : (secondEdge s).pending = s.pending := tickSecond_pending _

@[simp] theorem pulse_pending (s : State) : (pulse s).pending = s.pending := by
  rw [pulse_eq]
  split
  · exact tickSecond_pending _
  · rfl

@[simp] theorem settleCrystal_pending (s : State) : (settleCrystal s).pending = s.pending := by
  unfold settleCrystal
  split <;> rfl

@[simp] theorem timeoutSwitch_pending (s : State) : (timeoutSwitch s).pending = s.pending := by
  unfold timeoutSwitch
  split <;> rfl

@[simp] theorem failSource_pending (src : Source) (s : State) : (failSource src s).pending = s.pending := by
  unfold failSource
  split
  · split <;> rfl
  · rfl

/-! ### The oscillators (entry 3) -/

@[simp] theorem limitPeriod_pending (s : State) : (limitPeriod s).pending = s.pending := by
  unfold limitPeriod
  dsimp only
  split
  · split
    · exact timeoutSwitch_pending _
    · rfl
  · rfl

@[simp] theorem monitorPeriod_pending (src : Source) (limit : Nat) (s : State) :
    (monitorPeriod src limit s).pending = s.pending := by
  unfold monitorPeriod
  split
  · rfl
  · split
    · split
      · exact failSource_pending src s
      · rfl
    · rfl

@[simp] theorem sourcePeriod_pending (s : State) : (sourcePeriod s).pending = s.pending := by
  unfold sourcePeriod
  split
  · rfl
  · exact secondEdge_pending s

@[simp] theorem ircPeriod_pending (s : State) : (ircPeriod s).pending = s.pending := by
  unfold ircPeriod
  rw [monitorPeriod_pending, monitorPeriod_pending, limitPeriod_pending]
  split
  · exact sourcePeriod_pending s
  · rfl
  · rfl

@[simp] theorem crystalPeriod_pending (s : State) : (crystalPeriod s).pending = s.pending := by
  unfold crystalPeriod
  dsimp only
  split
  · exact sourcePeriod_pending s
  · split
    · split
      · split
        · rfl
        · exact settleCrystal_pending _
      · rfl
    · rfl

theorem idleStep_pending (s : State) : (idleStep s).pending = s.pending := by
  unfold idleStep oscillatorPeriod
  split
  · exact ircPeriod_pending _
  · exact crystalPeriod_pending _
  · exact linkPeriod_pending _

/-! ## The status block -/

@[simp] theorem unitCmdWrite_pending (code : BitVec 8) (u : UnitId) (s : State) :
    (unitCmdWrite code u s).pending = s.pending := by
  obtain ⟨_, _, _, h⟩ := unitCmdWrite_frame code u s
  rw [h]

/-- CLEAR empties the device's queues; the queue of commands is not one of them (R144, R174). -/
theorem clearEffect_pending (s : State) : (clearEffect s).pending = s.pending := cancelActive_pending s

@[simp] theorem commandWrite_pending (code argument : BitVec 8) (armed : Bool) (s : State) :
    (commandWrite code argument armed s).pending = s.pending := by
  unfold commandWrite
  split
  · unfold commandStart
    dsimp only
    split <;> rfl
  · rfl
  · unfold commandClear
    split
    · exact clearEffect_pending s
    · rfl
  · unfold commandPeriodClose
    split <;> rfl
  · unfold commandPeriodResend
    split
    · exact handWork_pending .p s
    · rfl
  · rw [commandClockSwitch_frame]
  · rfl

@[simp] theorem statusWrite_pending (i : Nat) (v : Word) (s : State) : (statusWrite i v s).pending = s.pending := by
  unfold statusWrite
  dsimp only
  split
  · rfl
  · rfl
  · rw [commandWrite_pending, disarm_pending]
  · rw [unitCmdWrite_pending, disarm_pending]
  · unfold writeTime
    split <;> rfl
  · unfold writeTimeAdjust
    split <;> rfl
  · unfold writeExport
    split
    · exact exportRecords_pending _ _
    · rfl
  · rfl

/-! ## Upstream transactions -/

theorem captureWrite_pending (t : WriteTxn) (off : Nat) (s : State) : (captureWrite t off s).pending = s.pending := by
  unfold captureWrite
  split
  · rfl
  · split
    · rfl
    · rw [raiseIf_pending, postWrite_pending]

theorem planAreaWrite_pending (t : WriteTxn) (off : Nat) (s : State) :
    (planAreaWrite t off s).pending = s.pending := by
  unfold planAreaWrite
  split
  · split
    · rfl
    · split
      · rfl
      · split
        · rfl
        · split
          · rfl
          · split
            · split
              · rfl
              · rw [postWrite_pending]
            · rw [postWrite_pending, applyInLoading_eq]
  · rfl

theorem ringWrite_pending (t : WriteTxn) (off : Nat) (s : State) : (ringWrite t off s).pending = s.pending := by
  unfold ringWrite
  split
  · rfl
  · split
    · rfl
    · exact postWrite_pending t s

theorem decideWrite_pending (t : WriteTxn) (s : State) : (decideWrite t s).pending = s.pending := by
  unfold decideWrite
  split
  · split
    · exact postWrite_pending t s
    · exact planAreaWrite_pending t _ s
    · unfold dropRingWrite
      split
      · exact captureWrite_pending t _ s
      · rfl
    · unfold statusBlockWrite
      split
      · exact statusWrite_pending _ _ s
      · rfl
    · rfl
    · exact ringWrite_pending t _ s
  · split <;> rfl

theorem forwardRead_pending (t : ReadTxn) (s : State) : (forwardRead t s).pending = s.pending := by
  unfold forwardRead
  split
  · rfl
  · rw [grant_pending, requestRead_pending]

theorem decideRead_pending (t : ReadTxn) (s : State) : (decideRead t s).pending = s.pending := by
  unfold decideRead
  split
  · split
    · rfl
    · rfl
    · unfold ringRead
      split
      · rfl
      · exact forwardRead_pending t s
    · exact forwardRead_pending t s
    · exact forwardRead_pending t s
    · exact forwardRead_pending t s
  · rfl

theorem decideTxn_pending (t : Txn) (s : State) : (decideTxn t s).pending = s.pending := by
  cases t with
  | write w => exact decideWrite_pending w s
  | read r => exact decideRead_pending r s

/-! ## Readings and the bus reset -/

theorem takeRecord_pending (r : QueuedReading) (s : State) : (takeRecord r s).pending = s.pending := by
  rcases Nat.lt_or_ge 511 (readingMeter r.words) with hbig | hsmall
  · rw [takeRecord_noMeter hbig, tally_frame]
  · rw [takeRecord_meter (m := ⟨_, Nat.lt_succ_of_le hsmall⟩) rfl, tally_frame]

theorem dropRead_pending (s : State) : (dropRead s).pending = s.pending := by
  unfold dropRead
  split <;> rfl

theorem cancelAndChoose_pending (s : State) : (cancelAndChoose s).pending = s.pending := by
  unfold cancelAndChoose
  split
  · rw [choose_pending, cancelActive_pending]
  · rfl

theorem resetBus_pending (s : State) : (resetBus s).pending = s.pending :=
  (cancelAndChoose_pending (dropRead s)).trans (dropRead_pending s)

/-! ## Every command -/

/-- The command is answered with a next state, and the queue of commands is as the command found it. -/
def KeepsCommands (s : State) (r : Host.Outcome State Fault Refusal) : Prop :=
  ∃ t, r = .next t ∧ t.pending = s.pending

theorem KeepsCommands.next {s t : State} (h : t.pending = s.pending) : KeepsCommands s (.next t) := ⟨t, rfl, h⟩

/-- A transaction that is taken, or has no effect (R148, R163). -/
theorem KeepsCommands.upstream {f : State → State} {s : State} (h : (f s).pending = s.pending) :
    KeepsCommands s (.next (takeUpstream f s)) := by
  unfold takeUpstream
  split
  · exact .next h
  · exact .next rfl

theorem takeWrite_keepsCommands (t : WriteTxn) (s : State) :
    KeepsCommands s (.next (takeUpstream (decideWrite t) s)) := .upstream (decideWrite_pending t s)

theorem takeTxn_keepsCommands (t : Txn) (s : State) : KeepsCommands s (.next (takeUpstream (decideTxn t) s)) :=
  .upstream (decideTxn_pending t s)

theorem takeStatus_keepsCommands (i : Nat) (v : Word) (s : State) :
    KeepsCommands s (.next (takeUpstream (statusWrite i v) s)) := .upstream (statusWrite_pending i v s)

theorem giveCommand_keepsCommands (code argument : BitVec 8) (s : State) :
    KeepsCommands s (.next (giveCommand code argument s)) :=
  .upstream (commandWrite_pending code argument _ (disarm s))

theorem takeUnitCommand_keepsCommands (code : BitVec 8) (u : UnitId) (s : State) :
    KeepsCommands s (.next (takeUpstream (fun s => unitCmdWrite code u (disarm s)) s)) :=
  .upstream (unitCmdWrite_pending code u (disarm s))

theorem execBrst_keepsCommands (level : Bool) (s : State) : KeepsCommands s (execBrst s level) := by
  refine .next ?_
  split
  · exact resetBus_pending (setBrst level s)
  · exact setBrst_pending level s

theorem execXtalSettled_keepsCommands (s : State) : KeepsCommands s (execXtalSettled s) := by
  refine .next ?_
  rw [settleCrystal_pending]
  split <;> rfl

theorem execReadingTake_keepsCommands (s : State) : KeepsCommands s (execReadingTake s) := by
  unfold execReadingTake
  split
  · exact .next rfl
  · refine .next ?_
    split
    · rfl
    · exact takeRecord_pending _ _

theorem execRecordStart_keepsCommands (s : State) : KeepsCommands s (execRecordStart s) := by
  refine .next ?_
  split
  · rw [grant_pending, requestWriteOut_pending, advanceRecord_pending]
  · rfl

theorem execFirstBurstAccepted_keepsCommands (s : State) : KeepsCommands s (execFirstBurstAccepted s) := by
  unfold execFirstBurstAccepted
  split
  · exact .next (by rw [grant_pending, freePort_pending, requestWriteOut_pending, advanceRecord_pending])
  · exact .next rfl

theorem execRecordComplete_keepsCommands (s : State) : KeepsCommands s (execRecordComplete s) := by
  unfold execRecordComplete
  split
  · exact .next (by rw [grant_pending, freePort_pending, completeRecord_pending])
  · exact .next rfl

theorem execRecordAbandoned_keepsCommands (s : State) : KeepsCommands s (execRecordAbandoned s) := by
  unfold execRecordAbandoned
  split
  · exact .next (failBurst_pending s)
  · exact .next (failBurst_pending s)
  · exact .next rfl

theorem execDrainWriteAccepted_keepsCommands (s : State) : KeepsCommands s (execDrainWriteAccepted s) := by
  unfold execDrainWriteAccepted
  split
  · exact .next (endDrain_pending s)
  · exact .next rfl

theorem execDrainWriteDiscarded_keepsCommands (s : State) : KeepsCommands s (execDrainWriteDiscarded s) := by
  unfold execDrainWriteDiscarded
  split
  · exact .next (discardDrain_pending s)
  · exact .next rfl

theorem execReadAnswer_keepsCommands (a : MemAnswer) (s : State) : KeepsCommands s (execReadAnswer a s) := by
  unfold execReadAnswer
  split
  · exact .next (endRead_pending _ s)
  · exact .next rfl

theorem execDisregardedMemoryAnswer_keepsCommands (s : State) :
    KeepsCommands s (execDisregardedMemoryAnswer s) := by
  unfold execDisregardedMemoryAnswer
  split
  · exact .next (by rw [grant_pending, freePort_pending])
  · exact .next rfl

theorem exec_keepsCommands (i : Instr) (s : State) : KeepsCommands s (exec i s) := by
  cases i with
  | powerOnReset => exact .next rfl
  | brst level => exact execBrst_keepsCommands level s
  | planLockChange level => exact .next rfl
  | trefPulse dt => exact .next (pulse_pending { s with clock := s.clock.pass dt })
  | secondEdge => exact .next (secondEdge_pending s)
  | xtalSettled => exact execXtalSettled_keepsCommands s
  | switchTimeout => exact .next (timeoutSwitch_pending s)
  | clockMonitorFail source => exact .next (failSource_pending source s)
  | stageDirect => exact .next (runStage_pending .direct s)
  | stageZones => exact .next (runStage_pending .zones s)
  | stageResidual => exact .next (runStage_pending .residual s)
  | stagePrice => exact .next (runStage_pending .price s)
  | stageOccupancy => exact .next (runStage_pending .occupancy s)
  | stagePeriod => exact .next (runStage_pending .period s)
  | stageSummary => exact .next (runStage_pending .summary s)
  | stageChanges => exact .next (runStage_pending .changes s)
  | stageEnd => exact .next (runStage_pending .finish s)
  | dropWrite t => exact takeWrite_keepsCommands t s
  | planWrite t => exact takeWrite_keepsCommands t s
  | postedWrite t => exact takeWrite_keepsCommands t s
  | forwardedRead t => exact takeTxn_keepsCommands (.read t) s
  | statementRingAccess t => exact takeTxn_keepsCommands t s
  | misalignedTransaction t => exact takeTxn_keepsCommands t s
  | accountWindowWrite t => exact takeWrite_keepsCommands t s
  | statusWriteRefused t => exact takeWrite_keepsCommands t s
  | causeWrite value => exact takeStatus_keepsCommands 2 value s
  | maskWrite value => exact takeStatus_keepsCommands 3 value s
  | timeWrite value => exact takeStatus_keepsCommands 6 value s
  | timeAdjustWrite value => exact takeStatus_keepsCommands 7 value s
  | exportWrite count => exact takeStatus_keepsCommands 11 count s
  | start => exact giveCommand_keepsCommands 1 0 s
  | clearArm => exact giveCommand_keepsCommands 2 0 s
  | clear => exact giveCommand_keepsCommands 3 0 s
  | periodClose => exact giveCommand_keepsCommands 4 0 s
  | periodResend => exact giveCommand_keepsCommands 5 0 s
  | clockSwitch argument => exact giveCommand_keepsCommands 6 argument s
  | commandBadCode code argument => exact giveCommand_keepsCommands code argument s
  | openUnit slot => exact takeUnitCommand_keepsCommands 1 slot s
  | closeUnit slot => exact takeUnitCommand_keepsCommands 2 slot s
  | forceUnit slot => exact takeUnitCommand_keepsCommands 3 slot s
  | cancelUnit slot => exact takeUnitCommand_keepsCommands 4 slot s
  | unitCmdBadCode code slot => exact takeUnitCommand_keepsCommands code slot s
  | readingTake => exact execReadingTake_keepsCommands s
  | drainWriteAccepted => exact execDrainWriteAccepted_keepsCommands s
  | drainWriteDiscarded => exact execDrainWriteDiscarded_keepsCommands s
  | readAnswer answer => exact execReadAnswer_keepsCommands answer s
  | memoryTimeout => exact .next (timeoutAccess_pending s)
  | recordStart => exact execRecordStart_keepsCommands s
  | firstBurstAccepted => exact execFirstBurstAccepted_keepsCommands s
  | recordComplete => exact execRecordComplete_keepsCommands s
  | recordAbandoned => exact execRecordAbandoned_keepsCommands s
  | disregardedMemoryAnswer => exact execDisregardedMemoryAnswer_keepsCommands s

/-! ## One step -/

/-- On a queue that holds a command a step runs the front one. -/
theorem step_front {s : State} {c : Instr} {rest : List Instr} (h : s.pending = c :: rest) :
    step s = exec c { s with pending := rest } := by
  unfold step
  rw [h]

/-- Settles O1: the queue with `c` put at its front has `c` at its front. -/
theorem stepRunsTheCommandAtTheFront : Obligations.StepRunsTheCommandAtTheFront :=
  fun c rest s => step_front (s := { s with pending := c :: rest }) rfl

/-- Settles O2: an empty queue stays empty over an idle step, and the command at the front of another is answered and
leaves the queue's rest. -/
theorem stepAnswersNextAndTakesOneCommand : Obligations.StepAnswersNextAndTakesOneCommand := by
  intro s
  cases hq : s.pending with
  | nil =>
    refine ⟨idleStep s, step_idle hq, ?_⟩
    rw [idleStep_pending, hq, List.tail_nil]
  | cons c rest =>
    rw [step_front hq, List.tail_cons]
    exact exec_keepsCommands c { s with pending := rest }

end Sys2Proof.Machine
end

section
/-! SUPPORT. What a step can do to the ledger: the link, the write-out engine, the accounts, the snapshots, the period
state and the close. One inversion for every command and idle step (`step_reaches`): the ledger stands, or one of the
operations that move it has run, or all is cleared. The invariants of these blocks are derived from it. -/

namespace Sys2Proof.Machine

/-! ## The ledger and its moves -/

/-- The blocks in which the close books and from which the write-out engine writes. -/
def State.ledger (s : State) : Link × WriteOut × Vector (Both Figures) 256 × Vector (Option Statement) 256 ×
    PeriodState × Option Close :=
  (s.link, s.out, s.accounts, s.snapshots, s.period, s.close)

theorem State.ledger_eq_iff {s t : State} : t.ledger = s.ledger ↔ t.link = s.link ∧ t.out = s.out ∧
    t.accounts = s.accounts ∧ t.snapshots = s.snapshots ∧ t.period = s.period ∧ t.close = s.close := by
  simp only [State.ledger, Prod.mk.injEq]

/-- The operations that move the ledger, each under the test by which the device comes to it. -/
inductive LedgerMove (u : State) : State → Prop
  | stays : LedgerMove u u
  | postsWrite (w : WriteTxn) : LedgerMove u (postWrite w u)
  | forwardsRead (r : ReadTxn) (h : UpstreamFree u) : LedgerMove u (forwardRead r u)
  | endsDrain (w : WriteTxn) (h : u.link.port = some (.drain w)) : LedgerMove u (endDrain u)
  | discardsDrain (w : WriteTxn) (h : u.link.port = some (.drain w)) : LedgerMove u (discardDrain u)
  | endsRead (q : ReadTxn) (r : Response) (h : u.link.port = some (.read q)) : LedgerMove u (endRead r u)
  | failsBurst (w : WriteTxn) (h : u.link.port = some (.firstBurst w) ∨ u.link.port = some (.secondBurst w)) :
      LedgerMove u (grant (freePort (failRecord u)))
  | endsDisregarded (x : Txn) (h : u.link.port = some (.disregarded x)) : LedgerMove u (grant (freePort u))
  | ages (n : Nat) : LedgerMove u { u with link := { u.link with age := n } }
  | startsRecord (h : u.recordReady = true) : LedgerMove u (grant (requestWriteOut (advanceRecord .first u)))
  | acceptsFirst (w : WriteTxn) (h : u.link.port = some (.firstBurst w)) :
      LedgerMove u (grant (freePort (requestWriteOut (advanceRecord .second u))))
  | completesRecord (w : WriteTxn) (c : Channel) (h : u.link.port = some (.secondBurst w))
      (hc : u.out.active = some c) : LedgerMove u (grant (freePort (completeRecord c u)))
  | exportsRecords (n : Nat) (h : n ≤ u.out.u) : LedgerMove u (exportRecords n u)
  | resendsPeriod (h : hasWork u .p = true) : LedgerMove u (handWork .p u)
  | asksPeriod : LedgerMove u { u with period := { u.period with pending := true } }
  | resetsBus : LedgerMove u (resetBus u)
  | runsStage (st : Stage) : LedgerMove u (runStage st u)
  | reachesBoundary (b : Time) (h : u.status.mode = .running) : LedgerMove u (beginClose b (finishClose u))

/-- From `s` to `t` the ledger makes one move, in a state with the ledger and the mode of `s`. -/
def Moves (s t : State) : Prop :=
  ∃ u v, u.ledger = s.ledger ∧ u.status.mode = s.status.mode ∧ LedgerMove u v ∧ t.ledger = v.ledger

theorem LedgerMove.moves {s t : State} (h : LedgerMove s t) : Moves s t := ⟨s, t, rfl, rfl, h, rfl⟩

theorem Moves.of_same {s t : State} (h : t.ledger = s.ledger) : Moves s t := ⟨s, s, rfl, rfl, .stays, h⟩

theorem Moves.refl (s : State) : Moves s s := .of_same rfl

/-- What went before left the ledger and the mode as they were. -/
theorem Moves.after {s r t : State} (h : Moves r t) (hr : r.ledger = s.ledger)
    (hm : r.status.mode = s.status.mode) : Moves s t := by
  obtain ⟨u, v, hu, hmode, hmove, ht⟩ := h
  exact ⟨u, v, hu.trans hr, hmode.trans hm, hmove, ht⟩

/-- What comes after leaves the ledger as it is. -/
theorem Moves.before {s r t : State} (h : Moves s r) (ht : t.ledger = r.ledger) : Moves s t := by
  obtain ⟨u, v, hu, hmode, hmove, hr⟩ := h
  exact ⟨u, v, hu, hmode, hmove, ht.trans hr⟩

/-- From `s` to `t` the ledger makes one move, or CLEAR, with no close in progress, or the power-on reset has cleared
it. -/
inductive Reaches (s t : State) : Prop
  | moves (h : Moves s t)
  | clears (u : State) (hu : u.ledger = s.ledger) (hclose : s.close = none) (hcleared : Cleared t)
      (ht : t.ledger = (clearEffect u).ledger)
  | resets (pins : Pins) (hcleared : Cleared t) (ht : t.ledger = (State.powerOn pins).ledger)

theorem Reaches.after {s r t : State} (h : Reaches r t) (hr : r.ledger = s.ledger)
    (hm : r.status.mode = s.status.mode) : Reaches s t := by
  cases h with
  | moves h => exact .moves (h.after hr hm)
  | clears u hu hclose hcleared ht =>
    obtain ⟨_, _, _, _, _, hsame⟩ := State.ledger_eq_iff.mp hr
    exact .clears u (hu.trans hr) (hsame ▸ hclose) hcleared ht
  | resets pins hcleared ht => exact .resets pins hcleared ht

/-! ## Events that leave the ledger as it is -/

@[simp] theorem raiseIf_ledger (b : Bool) (c : Cause) (s : State) : (raiseIf b c s).ledger = s.ledger := by
  cases b <;> rfl

theorem unitCmdWrite_ledger (code : BitVec 8) (u : UnitId) (s : State) :
    (unitCmdWrite code u s).ledger = s.ledger := by
  obtain ⟨oc, l, st, h⟩ := unitCmdWrite_frame code u s
  rw [h]
  rfl

theorem applyInLoading_ledger (e : PlanEntry) (s : State) : (applyInLoading e s).ledger = s.ledger := by
  rw [applyInLoading_eq]
  rfl

theorem takeRecord_ledger (r : QueuedReading) (s : State) : (takeRecord r s).ledger = s.ledger := by
  rcases Nat.lt_or_ge 511 (readingMeter r.words) with hbig | hsmall
  · rw [takeRecord_noMeter hbig, tally_frame]
    rfl
  · rw [takeRecord_meter (m := ⟨_, Nat.lt_succ_of_le hsmall⟩) rfl, tally_frame]
    rfl

/-! ### The clock, but for its boundaries -/

@[simp] theorem completeSwitch_ledger (s : State) : (completeSwitch s).ledger = s.ledger := by
  unfold completeSwitch
  split <;> rfl

@[simp] theorem timeoutSwitch_ledger (s : State) : (timeoutSwitch s).ledger = s.ledger := by
  unfold timeoutSwitch
  split <;> rfl

@[simp] theorem settleCrystal_ledger (s : State) : (settleCrystal s).ledger = s.ledger := by
  unfold settleCrystal
  split <;> rfl

@[simp] theorem failSource_ledger (src : Source) (s : State) : (failSource src s).ledger = s.ledger := by
  unfold failSource
  split
  · split <;> rfl
  · rfl

@[simp] theorem limitPeriod_ledger (s : State) : (limitPeriod s).ledger = s.ledger := by
  unfold limitPeriod
  dsimp only
  split
  · split
    · exact timeoutSwitch_ledger _
    · rfl
  · rfl

@[simp] theorem monitorPeriod_ledger (src : Source) (limit : Nat) (s : State) :
    (monitorPeriod src limit s).ledger = s.ledger := by
  unfold monitorPeriod
  split
  · rfl
  · split
    · split
      · exact failSource_ledger src s
      · rfl
    · rfl

/-! ## The billing clock -/

/-- A second of billing time moves the ledger at a boundary in RUNNING alone (R87, R88). -/
theorem passSecond_moves (s : State) : Moves s (passSecond s) := by
  by_cases hm : s.status.mode = .loading
  · rw [passSecond_loading hm]
    exact .of_same rfl
  · have hrun := running_of_not_loading hm
    by_cases ht : s.clock.time + 1 = s.clock.nextBoundary
    · rw [passSecond_boundary hrun ht]
      exact ⟨{ s with clock := { s.clock with time := s.clock.time + 1, phase := 0 } }, _, rfl, rfl,
        .reachesBoundary _ hrun, rfl⟩
    · rw [passSecond_short hrun ht]
      exact .of_same rfl

theorem tickSecond_moves (s : State) : Moves s (tickSecond s) := by
  rw [tickSecond_eq]
  split
  · exact (passSecond_moves s).before (completeSwitch_ledger _)
  · exact passSecond_moves s

theorem secondEdge_moves (s : State) : Moves s (secondEdge s) :=
  (tickSecond_moves { s with clock := s.clock.atEdge }).after rfl rfl

theorem pulse_moves (s : State) : Moves s (pulse s) := by
  rw [pulse_eq]
  split
  · exact (tickSecond_moves { s with clock := { s.clock.pulsed with trefGuard := none } }).after rfl rfl
  · exact .of_same rfl

theorem sourcePeriod_moves (s : State) : Moves s (sourcePeriod s) := by
  unfold sourcePeriod
  split
  · exact .of_same rfl
  · exact secondEdge_moves s

theorem ircSourcePeriod_moves (s : State) : Moves s (ircSourcePeriod s) := by
  unfold ircSourcePeriod
  split
  · exact sourcePeriod_moves s
  · exact .of_same rfl
  · exact .refl s

/-- The limit and the monitor leave the ledger as the current source's period has left it. -/
theorem ircPeriod_moves (s : State) : Moves s (ircPeriod s) :=
  (ircSourcePeriod_moves s).before
    ((monitorPeriod_ledger _ _ _).trans ((monitorPeriod_ledger _ _ _).trans (limitPeriod_ledger _)))

theorem crystalPeriod_moves (s : State) : Moves s (crystalPeriod s) := by
  unfold crystalPeriod
  dsimp only
  split
  · exact sourcePeriod_moves s
  · split
    · split
      · split
        · exact .of_same rfl
        · exact .of_same (settleCrystal_ledger _)
      · exact .of_same rfl
    · exact .refl s

/-! ## Accesses that end (R152, R153, R156, R157, R164) -/

theorem timeoutAccess_moves (s : State) : Moves s (timeoutAccess s) := by
  unfold timeoutAccess
  split
  · next w h => exact (LedgerMove.discardsDrain w h).moves
  · next q h => exact (LedgerMove.endsRead q .refuse h).moves
  · next w h => exact (LedgerMove.failsBurst w (.inl h)).moves
  · next w h => exact (LedgerMove.failsBurst w (.inr h)).moves
  · next x h => exact (LedgerMove.endsDisregarded x h).moves
  · exact .refl s

theorem linkPeriod_moves (s : State) : Moves s (linkPeriod s) := by
  unfold linkPeriod
  split
  · exact .refl s
  · split
    · exact (LedgerMove.ages _).moves
    · exact timeoutAccess_moves s

theorem idleStep_moves (s : State) : Moves s (idleStep s) := by
  refine Moves.after (r := { s with idle := s.idle + 1 }) ?_ rfl rfl
  unfold idleStep oscillatorPeriod
  split
  · exact ircPeriod_moves _
  · exact crystalPeriod_moves _
  · exact linkPeriod_moves _

/-! ## The status block -/

theorem commandWrite_reaches (code argument : BitVec 8) (armed : Bool) (s : State) :
    Reaches s (commandWrite code argument armed s) := by
  unfold commandWrite
  split
  · refine .moves (.of_same ?_)
    unfold commandStart
    dsimp only
    split <;> rfl
  · exact .moves (.of_same rfl)
  · by_cases h : clearOutcome armed s = .done
    · exact .clears s rfl (clearOutcome_done h) (commandClear_cleared h) (by rw [commandClear_done h]; rfl)
    · refine .moves (.of_same ?_)
      rw [commandClear_refused rfl h]
      rfl
  · unfold commandPeriodClose
    split
    · exact .moves (LedgerMove.asksPeriod.moves.before rfl)
    · exact .moves (.of_same rfl)
  · unfold commandPeriodResend
    split
    · next h => exact .moves ((LedgerMove.resendsPeriod h).moves.before rfl)
    · exact .moves (.of_same rfl)
  · exact .moves (.of_same (by rw [commandClockSwitch_frame]; rfl))
  · exact .moves (.of_same rfl)

theorem writeExport_moves (v : Word) (s : State) : Moves s (writeExport v s) := by
  unfold writeExport
  split
  · next h => exact (LedgerMove.exportsRecords _ h).moves.before rfl
  · exact .of_same rfl

theorem statusWrite_reaches (i : Nat) (v : Word) (s : State) : Reaches s (statusWrite i v s) := by
  refine Reaches.after (r := disarm s) ?_ rfl rfl
  unfold statusWrite
  dsimp only
  split
  · exact .moves (.of_same rfl)
  · exact .moves (.of_same rfl)
  · exact commandWrite_reaches _ _ _ _
  · exact .moves (.of_same (unitCmdWrite_ledger _ _ _))
  · refine .moves (.of_same ?_)
    unfold writeTime
    split <;> rfl
  · refine .moves (.of_same ?_)
    unfold writeTimeAdjust
    split <;> rfl
  · exact .moves (writeExport_moves v _)
  · exact .moves (.of_same rfl)

/-! ## Upstream transactions -/

theorem postWrite_moves (t : WriteTxn) (s : State) : Moves s (postWrite t s) := (LedgerMove.postsWrite t).moves

theorem captureWrite_moves (t : WriteTxn) (off : Nat) (s : State) : Moves s (captureWrite t off s) := by
  unfold captureWrite
  split
  · exact .of_same rfl
  · split
    · exact .of_same rfl
    · exact Moves.after (r := { s with capture := { s.capture with queue := s.capture.queue ++ [_] } })
        ((postWrite_moves t _).before (raiseIf_ledger _ .queueHalf _)) rfl rfl

theorem planAreaWrite_moves (t : WriteTxn) (off : Nat) (s : State) : Moves s (planAreaWrite t off s) := by
  unfold planAreaWrite
  split
  · split
    · exact .of_same rfl
    · split
      · exact .of_same rfl
      · split
        · exact .of_same rfl
        · split
          · exact .of_same rfl
          · split
            · split
              · exact .of_same rfl
              · exact (postWrite_moves t _).after rfl rfl
            · exact (postWrite_moves t _).after (applyInLoading_ledger _ s) (by rw [applyInLoading_eq])
  · exact .of_same rfl

theorem decideWrite_reaches (t : WriteTxn) (s : State) : Reaches s (decideWrite t s) := by
  unfold decideWrite
  split
  · split
    · exact .moves (postWrite_moves t s)
    · exact .moves (planAreaWrite_moves t _ s)
    · unfold dropRingWrite
      split
      · exact .moves (captureWrite_moves t _ s)
      · exact .moves (.of_same rfl)
    · unfold statusBlockWrite
      split
      · exact statusWrite_reaches _ _ s
      · exact .moves (.of_same rfl)
    · exact .moves (.of_same rfl)
    · unfold ringWrite
      split
      · exact .moves (.of_same rfl)
      · split
        · exact .moves (.of_same rfl)
        · exact .moves (postWrite_moves t s)
  · split <;> exact .moves (.of_same rfl)

theorem forwardRead_moves (t : ReadTxn) {s : State} (h : UpstreamFree s) : Moves s (forwardRead t s) :=
  (LedgerMove.forwardsRead t h).moves

theorem decideRead_moves (t : ReadTxn) {s : State} (h : UpstreamFree s) : Moves s (decideRead t s) := by
  unfold decideRead
  split
  · split
    · exact .of_same rfl
    · exact .of_same rfl
    · unfold ringRead
      split
      · exact .of_same rfl
      · exact forwardRead_moves t h
    · exact forwardRead_moves t h
    · exact forwardRead_moves t h
    · exact forwardRead_moves t h
  · exact .of_same rfl

/-! ## Every command -/

/-- The command is answered, and its effect on the ledger is one of those above. -/
def ReachesOutcome (s : State) (r : Host.Outcome State Fault Refusal) : Prop := ∃ t, r = .next t ∧ Reaches s t

theorem Reaches.next {s t : State} (h : Reaches s t) : ReachesOutcome s (.next t) := ⟨t, rfl, h⟩

theorem Moves.next {s t : State} (h : Moves s t) : ReachesOutcome s (.next t) := Reaches.next (.moves h)

/-- An upstream transaction is taken while the port is free for it, or has no effect. -/
theorem ReachesOutcome.upstream {f : State → State} {s : State} (h : UpstreamFree s → Reaches s (f s)) :
    ReachesOutcome s (.next (takeUpstream f s)) := by
  by_cases hfree : UpstreamFree s
  · rw [takeUpstream_free hfree]
    exact (h hfree).next
  · rw [takeUpstream_busy hfree]
    exact (Moves.refl s).next

theorem takeWrite_reaches (t : WriteTxn) (s : State) : ReachesOutcome s (.next (takeUpstream (decideWrite t) s)) :=
  .upstream fun _ => decideWrite_reaches t s

theorem takeTxn_reaches (t : Txn) (s : State) : ReachesOutcome s (.next (takeUpstream (decideTxn t) s)) := by
  cases t with
  | write w => exact takeWrite_reaches w s
  | read r => exact .upstream fun h => .moves (decideRead_moves r h)

theorem takeStatus_reaches (i : Nat) (v : Word) (s : State) :
    ReachesOutcome s (.next (takeUpstream (statusWrite i v) s)) := .upstream fun _ => statusWrite_reaches i v s

theorem giveCommand_reaches (code argument : BitVec 8) (s : State) :
    ReachesOutcome s (.next (giveCommand code argument s)) :=
  .upstream fun _ => (commandWrite_reaches code argument _ (disarm s)).after rfl rfl

theorem takeUnitCommand_reaches (code : BitVec 8) (u : UnitId) (s : State) :
    ReachesOutcome s (.next (takeUpstream (fun s => unitCmdWrite code u (disarm s)) s)) :=
  .upstream fun _ => .moves (.of_same (unitCmdWrite_ledger code u (disarm s)))

theorem runStage_reaches (st : Stage) (s : State) : ReachesOutcome s (.next (runStage st s)) :=
  (LedgerMove.runsStage st).moves.next

theorem execBrst_reaches (level : Bool) (s : State) : ReachesOutcome s (execBrst s level) := by
  refine Moves.next ?_
  split
  · exact LedgerMove.resetsBus.moves.after (r := setBrst level s) rfl rfl
  · exact .of_same rfl

theorem execXtalSettled_reaches (s : State) : ReachesOutcome s (execXtalSettled s) := by
  refine Moves.next (.of_same ?_)
  rw [settleCrystal_ledger]
  split <;> rfl

theorem execReadingTake_reaches (s : State) : ReachesOutcome s (execReadingTake s) := by
  unfold execReadingTake
  split
  · exact (Moves.refl s).next
  · refine Moves.next (.of_same ?_)
    split
    · rfl
    · exact takeRecord_ledger _ _

theorem execRecordStart_reaches (s : State) : ReachesOutcome s (execRecordStart s) := by
  refine Moves.next ?_
  split
  · next h => exact (LedgerMove.startsRecord h).moves
  · exact .refl s

theorem execFirstBurstAccepted_reaches (s : State) : ReachesOutcome s (execFirstBurstAccepted s) := by
  unfold execFirstBurstAccepted
  split
  · next w h => exact (LedgerMove.acceptsFirst w h).moves.next
  · exact (Moves.refl s).next

theorem execRecordComplete_reaches (s : State) : ReachesOutcome s (execRecordComplete s) := by
  unfold execRecordComplete
  split
  · next w c hport hactive => exact (LedgerMove.completesRecord w c hport hactive).moves.next
  · exact (Moves.refl s).next

theorem execRecordAbandoned_reaches (s : State) : ReachesOutcome s (execRecordAbandoned s) := by
  unfold execRecordAbandoned
  split
  · next w h => exact (LedgerMove.failsBurst w (.inl h)).moves.next
  · next w h => exact (LedgerMove.failsBurst w (.inr h)).moves.next
  · exact (Moves.refl s).next

theorem execDrainWriteAccepted_reaches (s : State) : ReachesOutcome s (execDrainWriteAccepted s) := by
  unfold execDrainWriteAccepted
  split
  · next w h => exact (LedgerMove.endsDrain w h).moves.next
  · exact (Moves.refl s).next

theorem execDrainWriteDiscarded_reaches (s : State) : ReachesOutcome s (execDrainWriteDiscarded s) := by
  unfold execDrainWriteDiscarded
  split
  · next w h => exact (LedgerMove.discardsDrain w h).moves.next
  · exact (Moves.refl s).next

theorem execReadAnswer_reaches (a : MemAnswer) (s : State) : ReachesOutcome s (execReadAnswer a s) := by
  unfold execReadAnswer
  split
  · next q h => exact (LedgerMove.endsRead q _ h).moves.next
  · exact (Moves.refl s).next

theorem execDisregardedMemoryAnswer_reaches (s : State) : ReachesOutcome s (execDisregardedMemoryAnswer s) := by
  unfold execDisregardedMemoryAnswer
  split
  · next x h => exact (LedgerMove.endsDisregarded x h).moves.next
  · exact (Moves.refl s).next

theorem exec_reaches (i : Instr) (s : State) : ReachesOutcome s (exec i s) := by
  cases i with
  | powerOnReset => exact Reaches.next (.resets s.pins (powerOn_cleared s.pins s.idle s.pending) rfl)
  | brst level => exact execBrst_reaches level s
  | planLockChange level => exact Moves.next (.of_same rfl)
  | trefPulse dt => exact Moves.next (s := s) (Moves.after (pulse_moves { s with clock := s.clock.pass dt }) rfl rfl)
  | secondEdge => exact (secondEdge_moves s).next
  | xtalSettled => exact execXtalSettled_reaches s
  | switchTimeout => exact Moves.next (.of_same (timeoutSwitch_ledger s))
  | clockMonitorFail source => exact Moves.next (.of_same (failSource_ledger source s))
  | stageDirect => exact runStage_reaches .direct s
  | stageZones => exact runStage_reaches .zones s
  | stageResidual => exact runStage_reaches .residual s
  | stagePrice => exact runStage_reaches .price s
  | stageOccupancy => exact runStage_reaches .occupancy s
  | stagePeriod => exact runStage_reaches .period s
  | stageSummary => exact runStage_reaches .summary s
  | stageChanges => exact runStage_reaches .changes s
  | stageEnd => exact runStage_reaches .finish s
  | dropWrite t => exact takeWrite_reaches t s
  | planWrite t => exact takeWrite_reaches t s
  | postedWrite t => exact takeWrite_reaches t s
  | forwardedRead t => exact takeTxn_reaches (.read t) s
  | statementRingAccess t => exact takeTxn_reaches t s
  | misalignedTransaction t => exact takeTxn_reaches t s
  | accountWindowWrite t => exact takeWrite_reaches t s
  | statusWriteRefused t => exact takeWrite_reaches t s
  | causeWrite value => exact takeStatus_reaches 2 value s
  | maskWrite value => exact takeStatus_reaches 3 value s
  | timeWrite value => exact takeStatus_reaches 6 value s
  | timeAdjustWrite value => exact takeStatus_reaches 7 value s
  | exportWrite count => exact takeStatus_reaches 11 count s
  | start => exact giveCommand_reaches 1 0 s
  | clearArm => exact giveCommand_reaches 2 0 s
  | clear => exact giveCommand_reaches 3 0 s
  | periodClose => exact giveCommand_reaches 4 0 s
  | periodResend => exact giveCommand_reaches 5 0 s
  | clockSwitch argument => exact giveCommand_reaches 6 argument s
  | commandBadCode code argument => exact giveCommand_reaches code argument s
  | openUnit slot => exact takeUnitCommand_reaches 1 slot s
  | closeUnit slot => exact takeUnitCommand_reaches 2 slot s
  | forceUnit slot => exact takeUnitCommand_reaches 3 slot s
  | cancelUnit slot => exact takeUnitCommand_reaches 4 slot s
  | unitCmdBadCode code slot => exact takeUnitCommand_reaches code slot s
  | readingTake => exact execReadingTake_reaches s
  | drainWriteAccepted => exact execDrainWriteAccepted_reaches s
  | drainWriteDiscarded => exact execDrainWriteDiscarded_reaches s
  | readAnswer answer => exact execReadAnswer_reaches answer s
  | memoryTimeout => exact (timeoutAccess_moves s).next
  | recordStart => exact execRecordStart_reaches s
  | firstBurstAccepted => exact execFirstBurstAccepted_reaches s
  | recordComplete => exact execRecordComplete_reaches s
  | recordAbandoned => exact execRecordAbandoned_reaches s
  | disregardedMemoryAnswer => exact execDisregardedMemoryAnswer_reaches s

/-- What one step can do to the ledger. -/
theorem step_reaches {s t : State} (h : step s = .next t) : Reaches s t := by
  unfold step at h
  split at h
  · cases h
    exact .moves (idleStep_moves s)
  · obtain ⟨t', ht', hreaches⟩ := exec_reaches _ _
    cases ht'.symm.trans h
    exact hreaches.after rfl rfl

end Sys2Proof.Machine
end

section
/-! SUPPORT. The accounts along every step: each stage of a close on the cost remainders and the interval sums, the
close brought to its end, and what a step leaves of both (O8, O10; R45, R60). -/

namespace Sys2Proof.Machine

/-! ## The accounts after a stage, figure by figure -/

@[simp] theorem mapFigures_get (f : UnitId → Medium → Figures → Figures) (a : Vector (Both Figures) 256)
    (u : UnitId) (m : Medium) : ((mapFigures f a)[u]).get m = f u m (a[u].get m) := by
  unfold mapFigures
  rw [getElem_ofFn_fin]
  cases m <;> rfl

theorem clearPeriods_get (p : UnitId → Bool) (a : Vector (Both Figures) 256) (u : UnitId) (m : Medium) :
    ((clearPeriods p a)[u]).get m = if p u then (a[u].get m).clearPeriod else a[u].get m := by
  unfold clearPeriods
  rw [getElem_ofFn_fin]
  split
  · cases m <;> rfl
  · rfl

theorem stageDirect_get (c : Close) (s : State) (u : UnitId) (m : Medium) :
    ((stageDirect c s).accounts[u]).get m =
      (s.accounts[u].get m).bookDirect (((c.creditedMeters u m).map (·.energy)).sum)
        (((c.creditedMeters u m).map (·.estimated)).sum) := by
  have hacc : (stageDirect c s).accounts = mapFigures (fun u m f => f.bookDirect
      (((c.creditedMeters u m).map (·.energy)).sum) (((c.creditedMeters u m).map (·.estimated)).sum)) s.accounts := rfl
  rw [hacc, mapFigures_get]

/-- The energy of the common zones of a medium that is credited to the slot (R54 to R56). -/
def zoneEnergy (c : Close) (s : State) (u : UnitId) (m : Medium) : Nat :=
  ((((commonZones s.plan).map fun z => (z, zoneResult c s z)).filter fun r => s.plan.zoneMedium r.1 == m).map
    fun r => c.creditedShares r.2.shares u).sum

theorem stageZones_get (c : Close) (s : State) (u : UnitId) (m : Medium) :
    ((stageZones c s).accounts[u]).get m = (s.accounts[u].get m).bookZone (zoneEnergy c s u m) := by
  have hacc : (stageZones c s).accounts = mapFigures (fun u m f => f.bookZone (zoneEnergy c s u m)) s.accounts := rfl
  rw [hacc, mapFigures_get]

theorem stageResidual_get (c : Close) (s : State) (u : UnitId) (m : Medium) :
    ((stageResidual c s).accounts[u]).get m =
      (s.accounts[u].get m).bookResidual (c.creditedShares (residualResult c s m).shares u) := by
  have hacc : (stageResidual c s).accounts = mapFigures (fun u m f =>
      f.bookResidual (c.creditedShares ((Both.of (residualResult c s)).get m).shares u)) s.accounts := rfl
  rw [hacc, mapFigures_get]
  cases m <;> rfl

theorem stagePrice_get (c : Close) (s : State) (u : UnitId) (m : Medium) :
    ((stagePrice c s).accounts[u]).get m =
      (s.accounts[u].get m).priced (s.plan.price s.plan.units[u].tariff c.band m) := by
  have hacc : (stagePrice c s).accounts = mapFigures (fun u m f =>
      f.priced (s.plan.price s.plan.units[u].tariff c.band m)) s.accounts := rfl
  rw [hacc, mapFigures_get]

/-- The accounts and the close: what the invariant of the accounts speaks of. -/
def State.books (s : State) : Vector (Both Figures) 256 × Option Close := (s.accounts, s.close)

@[simp] theorem raiseIf_accounts (b : Bool) (c : Cause) (s : State) : (raiseIf b c s).accounts = s.accounts := by
  cases b <;> rfl

@[simp] theorem handWork_accounts (c : Channel) (s : State) : (handWork c s).accounts = s.accounts := by
  obtain ⟨_, _, h⟩ := handWork_frame c s
  rw [h]

@[simp] theorem handWork_books (c : Channel) (s : State) : (handWork c s).books = s.books := by
  obtain ⟨_, _, h⟩ := handWork_frame c s
  rw [h]
  rfl

/-- The accounts after stage 6: the period figures of the slots that close now return to 0 (R63). -/
theorem stageOccupancy_accounts (c : Close) (s : State) :
    (stageOccupancy c s).accounts = clearPeriods (fun u => (Vector.ofFn (closesNow c s))[u]) s.accounts := by
  unfold stageOccupancy
  dsimp only
  split
  · rw [handWork_accounts, raiseIf_accounts, raiseIf_accounts]
  · rw [raiseIf_accounts, raiseIf_accounts]

/-- The accounts after stage 7 with a period due: the period figures of the set return to 0, but for the slots that
closed at stage 6 (R64, R65). -/
theorem stagePeriod_accounts {c : Close} (h : c.periodDue = true) (s : State) : (stagePeriod c s).accounts =
    clearPeriods (fun u => c.inPeriodSet u && !c.finalTaken[u]) s.accounts := by
  unfold stagePeriod
  rw [if_pos h]
  exact handWork_accounts .p _

theorem stagePeriod_noPeriod {c : Close} (h : c.periodDue = false) (s : State) :
    stagePeriod c s = { s with close := some { c with next := .summary } } := by
  unfold stagePeriod
  rw [if_neg (by simp [h])]

/-! ## Order among the stages -/

/-- The place of a stage in the order (R48). -/
def Stage.rank : Stage → Nat
  | .direct => 0
  | .zones => 1
  | .residual => 2
  | .price => 3
  | .occupancy => 4
  | .period => 5
  | .summary => 6
  | .changes => 7
  | .finish => 8

/-- No stage before place `k` is due. -/
def DueFrom (k : Nat) (s : State) : Prop := ∀ c, s.close = some c → k ≤ c.next.rank

theorem DueFrom.of_next {k : Nat} {s : State} {c : Close} (h : s.close = some c) (hk : k ≤ c.next.rank) :
    DueFrom k s := by
  intro d hd
  rw [h] at hd
  cases hd
  exact hk

/-- A stage that has run makes the next one due; the last ends the close. -/
theorem stageEffect_dueFrom (st : Stage) (c : Close) (s : State) : DueFrom (st.rank + 1) (stageEffect st c s) := by
  cases st with
  | direct => exact .of_next rfl (Nat.le_refl 1)
  | zones => exact .of_next rfl (Nat.le_refl 2)
  | residual => exact .of_next rfl (Nat.le_refl 3)
  | price => exact .of_next rfl (Nat.le_refl 4)
  | occupancy =>
    obtain ⟨_, _, _, _, _, h⟩ := stageOccupancy_frame c s
    exact .of_next (congrArg State.close h) (Nat.le_refl 5)
  | period =>
    obtain ⟨_, _, _, _, _, h⟩ := stagePeriod_frame c s
    exact .of_next (congrArg State.close h) (Nat.le_refl 6)
  | summary =>
    obtain ⟨_, _, h⟩ := stageSummary_frame c s
    exact .of_next (congrArg State.close h) (Nat.le_refl 7)
  | changes =>
    obtain ⟨_, _, _, _, _, _, h⟩ := stageChanges_frame c s
    exact .of_next (congrArg State.close h) (Nat.le_refl 8)
  | finish =>
    intro d hd
    cases hd

theorem runStage_dueFrom {st : Stage} {s : State} (h : DueFrom st.rank s) : DueFrom (st.rank + 1) (runStage st s) := by
  by_cases hdue : ∃ c, s.close = some c ∧ c.next = st
  · obtain ⟨c, hc, hn⟩ := hdue
    rw [runStage_due hc hn]
    exact stageEffect_dueFrom st c s
  · have hother : ∀ c, s.close = some c → c.next ≠ st := fun c hc hn => hdue ⟨c, hc, hn⟩
    rw [runStage_other hother]
    intro c hc
    have hne : c.next.rank ≠ st.rank := fun heq => hother c hc (by
      revert heq
      cases c.next <;> cases st <;> decide)
    have hle := h c hc
    omega

/-- Every stage that was due has run: the close has ended. -/
theorem finishClose_close (s : State) : (finishClose s).close = none := by
  have hstart : DueFrom 0 s := fun _ _ => Nat.zero_le _
  have hend : DueFrom 9 (finishClose s) :=
    runStage_dueFrom (st := .finish) (runStage_dueFrom (st := .changes) (runStage_dueFrom (st := .summary)
      (runStage_dueFrom (st := .period) (runStage_dueFrom (st := .occupancy) (runStage_dueFrom (st := .price)
        (runStage_dueFrom (st := .residual) (runStage_dueFrom (st := .zones)
          (runStage_dueFrom (st := .direct) hstart))))))))
  cases hc : (finishClose s).close with
  | none => rfl
  | some c =>
    have hlow := hend c hc
    have hhigh : c.next.rank ≤ 8 := by cases c.next <;> decide
    omega

/-- What every stage keeps, the end of the close keeps. -/
theorem finishClose_keeps {P : State → Prop} (hstage : ∀ st s, P s → P (runStage st s)) {s : State} (h : P s) :
    P (finishClose s) := by
  unfold finishClose
  generalize stageOrder = l
  induction l generalizing s with
  | nil => exact h
  | cons st l ih => exact ih (hstage st s h)

/-! ## The invariant of the accounts -/

theorem AccountsInv.of_books {s t : State} (h : AccountsInv s) (hbooks : t.books = s.books) : AccountsInv t := by
  simp only [State.books, Prod.mk.injEq] at hbooks
  obtain ⟨hacc, hclose⟩ := hbooks
  unfold AccountsInv summing at h ⊢
  rw [hacc, hclose]
  exact h

/-- Outside the booking stages a change of the accounts keeps the invariant where it moves the period figures
alone. -/
theorem AccountsInv.of_periods {s t : State} (h : AccountsInv s) (hs : ¬ summing s)
    (hkept : ∀ (u : UnitId) (m : Medium), (t.accounts[u].get m).remainder = (s.accounts[u].get m).remainder ∧
      (t.accounts[u].get m).intervalSum = (s.accounts[u].get m).intervalSum) : AccountsInv t := by
  obtain ⟨hrem, hsum⟩ := h
  refine ⟨fun u m => ?_, fun _ u m => ?_⟩
  · rw [(hkept u m).1]
    exact hrem u m
  · rw [(hkept u m).2]
    exact hsum hs u m

theorem clearPeriods_kept (p : UnitId → Bool) (a : Vector (Both Figures) 256) (u : UnitId) (m : Medium) :
    (((clearPeriods p a)[u]).get m).remainder = (a[u].get m).remainder ∧
      (((clearPeriods p a)[u]).get m).intervalSum = (a[u].get m).intervalSum := by
  rw [clearPeriods_get]
  split
  · exact ⟨rfl, rfl⟩
  · exact ⟨rfl, rfl⟩

/-- Pricing leaves a remainder below 1000 (R60). -/
theorem Figures.priced_remainder (price : Nat) (f : Figures) : (f.priced price).remainder ≤ 999 := by
  have h : (f.priced price).remainder = ((f.intervalSum * price + f.remainder) % 1000).toNat := rfl
  omega

theorem not_summing {s : State} {c : Close} (hc : s.close = some c) (hn : 4 ≤ c.next.rank) : ¬ summing s := by
  rintro ⟨d, hd, hnext⟩
  cases hc.symm.trans hd
  rcases hnext with h | h | h <;> rw [h] at hn <;> exact absurd hn (by decide)

/-- Within the booking stages a change of the accounts keeps the invariant where it moves no remainder. -/
theorem AccountsInv.of_booking {s t : State} (h : AccountsInv s) (hs : summing t)
    (hkept : ∀ (u : UnitId) (m : Medium), (t.accounts[u].get m).remainder = (s.accounts[u].get m).remainder) :
    AccountsInv t := by
  obtain ⟨hrem, _⟩ := h
  refine ⟨fun u m => ?_, fun hno => absurd hs hno⟩
  rw [hkept u m]
  exact hrem u m

theorem stageOccupancy_accountsInv (c : Close) {s : State} (h : AccountsInv s) (hs : ¬ summing s) :
    AccountsInv (stageOccupancy c s) := by
  refine h.of_periods hs fun u m => ?_
  rw [stageOccupancy_accounts]
  exact clearPeriods_kept _ _ u m

theorem stagePeriod_accountsInv (c : Close) {s : State} (h : AccountsInv s) (hs : ¬ summing s) :
    AccountsInv (stagePeriod c s) := by
  refine h.of_periods hs fun u m => ?_
  by_cases hdue : c.periodDue = true
  · rw [stagePeriod_accounts hdue]
    exact clearPeriods_kept _ _ u m
  · rw [stagePeriod_noPeriod (by simpa using hdue)]
    exact ⟨rfl, rfl⟩

theorem stagePrice_accountsInv (c : Close) (s : State) : AccountsInv (stagePrice c s) := by
  refine ⟨fun u m => ?_, fun _ u m => ?_⟩
  · rw [stagePrice_get]
    exact Figures.priced_remainder _ _
  · rw [stagePrice_get]
    rfl

theorem stageEffect_accountsInv {st : Stage} {c : Close} {s : State} (h : AccountsInv s) (hc : s.close = some c)
    (hn : c.next = st) : AccountsInv (stageEffect st c s) := by
  have hpast : 4 ≤ st.rank → ¬ summing s := fun hrank => not_summing hc (hn.symm ▸ hrank)
  cases st with
  | direct =>
    refine h.of_booking ⟨_, rfl, .inl rfl⟩ fun u m => ?_
    rw [show stageEffect .direct c s = stageDirect c s from rfl, stageDirect_get]
    rfl
  | zones =>
    refine h.of_booking ⟨_, rfl, .inr (.inl rfl)⟩ fun u m => ?_
    rw [show stageEffect .zones c s = stageZones c s from rfl, stageZones_get]
    rfl
  | residual =>
    refine h.of_booking ⟨_, rfl, .inr (.inr rfl)⟩ fun u m => ?_
    rw [show stageEffect .residual c s = stageResidual c s from rfl, stageResidual_get]
    rfl
  | price => exact stagePrice_accountsInv c s
  | occupancy =>
    rw [show stageEffect .occupancy c s = stageOccupancy c s from rfl]
    exact stageOccupancy_accountsInv c h (hpast (by decide))
  | period => exact stagePeriod_accountsInv c h (hpast (by decide))
  | summary =>
    obtain ⟨_, _, hframe⟩ := stageSummary_frame c s
    refine h.of_periods (hpast (by decide)) fun u m => ?_
    rw [show stageEffect .summary c s = stageSummary c s from rfl, hframe]
    exact ⟨rfl, rfl⟩
  | changes =>
    obtain ⟨_, _, _, _, _, _, hframe⟩ := stageChanges_frame c s
    refine h.of_periods (hpast (by decide)) fun u m => ?_
    rw [show stageEffect .changes c s = stageChanges c s from rfl, hframe]
    exact ⟨rfl, rfl⟩
  | finish => exact h.of_periods (hpast (by decide)) fun u m => ⟨rfl, rfl⟩

theorem runStage_accountsInv (st : Stage) {s : State} (h : AccountsInv s) : AccountsInv (runStage st s) := by
  by_cases hdue : ∃ c, s.close = some c ∧ c.next = st
  · obtain ⟨c, hc, hn⟩ := hdue
    rw [runStage_due hc hn]
    exact stageEffect_accountsInv h hc hn
  · rw [runStage_other fun c hc hn => hdue ⟨c, hc, hn⟩]
    exact h

theorem beginClose_accounts (b : Time) (s : State) : (beginClose b s).accounts = s.accounts := by
  unfold beginClose
  exact raiseIf_accounts _ .meterStale _

/-- At a boundary the close in progress has ended before the next begins: no interval sum stands. -/
theorem boundary_accountsInv (b : Time) {s : State} (h : AccountsInv s) : AccountsInv (beginClose b (finishClose s)) := by
  have hdone : AccountsInv (finishClose s) := finishClose_keeps (fun st _ => runStage_accountsInv st) h
  refine hdone.of_periods ?_ fun u m => ?_
  · rintro ⟨c, hc, _⟩
    rw [finishClose_close] at hc
    cases hc
  · rw [beginClose_accounts]
    exact ⟨rfl, rfl⟩

/-- With every account at its initial figures the invariant holds. -/
theorem AccountsInv.of_initial {s : State} (h : ∀ (u : UnitId) (m : Medium), s.accounts[u].get m = Figures.initial) :
    AccountsInv s := by
  refine ⟨fun u m => ?_, fun _ u m => ?_⟩
  · rw [h u m]
    decide
  · rw [h u m]
    rfl

/-! ## What a step leaves of the accounts -/

theorem State.books_of_ledger {s t : State} (h : t.ledger = s.ledger) : t.books = s.books := by
  obtain ⟨_, _, hacc, _, _, hclose⟩ := State.ledger_eq_iff.mp h
  simp only [State.books, hacc, hclose]

theorem grant_books (s : State) : (grant s).books = s.books := by
  obtain ⟨_, h⟩ := grant_frame s
  rw [h]
  rfl

theorem forwardRead_books (r : ReadTxn) (s : State) : (forwardRead r s).books = s.books := by
  unfold forwardRead
  split
  · rfl
  · exact grant_books _

theorem dropRead_books (s : State) : (dropRead s).books = s.books := by
  unfold dropRead
  split <;> rfl

theorem cancelAndChoose_books (s : State) : (cancelAndChoose s).books = s.books := by
  unfold cancelAndChoose
  split
  · obtain ⟨_, _, hchoose⟩ := choose_frame (cancelActive s)
    obtain ⟨_, _, _, hcancel⟩ := cancelActive_frame s
    rw [hchoose, hcancel]
    rfl
  · rfl

theorem resetBus_books (s : State) : (resetBus s).books = s.books :=
  (cancelAndChoose_books (dropRead s)).trans (dropRead_books s)

/-- Only a stage of a close and a boundary in RUNNING move the accounts or the close. -/
theorem LedgerMove.books {u v : State} (h : LedgerMove u v) : v.books = u.books ∨ (∃ st, v = runStage st u) ∨
    ∃ b, u.status.mode = .running ∧ v = beginClose b (finishClose u) := by
  cases h with
  | stays => exact .inl rfl
  | postsWrite w =>
    obtain ⟨_, _, hframe⟩ := postWrite_frame w u
    exact .inl (hframe ▸ rfl)
  | forwardsRead r _ =>
    exact .inl (forwardRead_books r u)
  | endsDrain _ _ =>
    obtain ⟨_, hframe⟩ := endDrain_frame u
    exact .inl (hframe ▸ rfl)
  | discardsDrain _ _ =>
    obtain ⟨_, _, hframe⟩ := discardDrain_frame u
    exact .inl (hframe ▸ rfl)
  | endsRead _ r _ =>
    obtain ⟨_, _, hframe⟩ := endRead_frame r u
    exact .inl (hframe ▸ rfl)
  | failsBurst _ _ =>
    obtain ⟨_, _, _, hframe⟩ := failRecord_frame u
    exact .inl ((grant_books _).trans (by rw [hframe]; rfl))
  | endsDisregarded _ _ =>
    exact .inl (grant_books (freePort u))
  | ages n => exact .inl rfl
  | startsRecord _ =>
    exact .inl (grant_books (requestWriteOut (advanceRecord .first u)))
  | acceptsFirst _ _ =>
    exact .inl (grant_books (freePort (requestWriteOut (advanceRecord .second u))))
  | completesRecord _ c _ _ =>
    obtain ⟨_, _, _, _, _, hframe⟩ := completeRecord_frame c u
    exact .inl ((grant_books _).trans (by rw [hframe]; rfl))
  | exportsRecords n _ =>
    obtain ⟨_, _, hframe⟩ := exportRecords_frame n u
    exact .inl (hframe ▸ rfl)
  | resendsPeriod _ =>
    exact .inl (handWork_books .p u)
  | asksPeriod => exact .inl rfl
  | resetsBus =>
    exact .inl (resetBus_books u)
  | runsStage st => exact .inr (.inl ⟨st, rfl⟩)
  | reachesBoundary b hrun => exact .inr (.inr ⟨b, hrun, rfl⟩)

theorem LedgerMove.accountsInv {u v : State} (h : LedgerMove u v) (hinv : AccountsInv u) : AccountsInv v := by
  rcases h.books with hsame | ⟨st, rfl⟩ | ⟨b, _, rfl⟩
  · exact hinv.of_books hsame
  · exact runStage_accountsInv st hinv
  · exact boundary_accountsInv b hinv

theorem Moves.accountsInv {s t : State} (h : Moves s t) (hinv : AccountsInv s) : AccountsInv t := by
  obtain ⟨_, _, hu, _, hmove, ht⟩ := h
  exact (hmove.accountsInv (hinv.of_books (State.books_of_ledger hu))).of_books (State.books_of_ledger ht)

/-- With no close in progress and in LOADING no move of the ledger books or begins a close. -/
theorem Moves.books_loading {s t : State} (h : Moves s t) (hload : s.status.mode = .loading) (hclose : s.close = none) :
    t.books = s.books := by
  obtain ⟨u, v, hu, hmode, hmove, ht⟩ := h
  have hub := State.books_of_ledger hu
  refine (State.books_of_ledger ht).trans (Eq.trans ?_ hub)
  have hidle : u.close = none := (congrArg Prod.snd hub).trans hclose
  rcases hmove.books with hsame | ⟨st, rfl⟩ | ⟨_, hrun, _⟩
  · exact hsame
  · rw [runStage_other (by simp [hidle])]
  · rw [hmode, hload] at hrun
    cases hrun

/-- Settles O8: only the stages of a close and CLEAR and the power-on reset write the accounts; pricing takes each
remainder modulo 1000 and empties the sums, and a boundary begins a close when the one before has ended. -/
theorem stepKeepsAccounts : Obligations.StepKeepsAccounts := by
  intro s t hinv hstep
  cases step_reaches hstep with
  | moves h => exact h.accountsInv hinv
  | clears u hu hclose hcleared ht =>
    obtain ⟨_, _, _, _, hacc⟩ := hcleared
    exact .of_initial hacc
  | resets pins hcleared ht =>
    obtain ⟨_, _, _, _, hacc⟩ := hcleared
    exact .of_initial hacc

/-- Settles O10: in LOADING no boundary is reached and no stage is due. -/
theorem loadingChangesNoAccount : Obligations.LoadingChangesNoAccount := by
  intro s t hload hclose hstep
  cases step_reaches hstep with
  | moves h =>
    have hbooks := h.books_loading hload hclose
    exact ⟨(congrArg Prod.snd hbooks).trans hclose, .inl (congrArg Prod.fst hbooks)⟩
  | clears u hu _ hcleared ht =>
    refine ⟨?_, .inr hcleared⟩
    obtain ⟨_, _, _, _, _, hsame⟩ := State.ledger_eq_iff.mp ht
    obtain ⟨_, _, _, _, _, hstays⟩ := State.ledger_eq_iff.mp hu
    obtain ⟨_, _, _, hframe⟩ := cancelActive_frame u
    refine hsame.trans (Eq.trans ?_ (hstays.trans hclose))
    unfold clearEffect
    rw [hframe]
  | resets pins hcleared ht =>
    obtain ⟨_, _, _, _, _, hsame⟩ := State.ledger_eq_iff.mp ht
    exact ⟨hsame, .inr hcleared⟩

end Sys2Proof.Machine
end

section
/-! SUPPORT. The memory link in order at every event (R148, R152, R158): what each requester's part of the order asks,
what the arbiter keeps of it, and each event of the link. -/

namespace Sys2Proof.Machine

/-! ## The link's order, requester by requester -/

theorem Link.draining_iff {l : Link} : l.draining = true ↔ ∃ w, l.port = some (.drain w) := by
  unfold Link.draining
  split
  · next w h => exact ⟨fun _ => ⟨w, h⟩, fun _ => rfl⟩
  · next hno => exact ⟨nofun, fun ⟨w, hw⟩ => absurd hw (hno w)⟩

/-- The drain's access is the head entry, and entries that stand are being drained or the drain waits (R152). -/
structure DrainOk (l : Link) : Prop where
  head : ∀ w, l.port = some (.drain w) → l.posted.head? = some w ∧ l.reqDrain = false
  waits : l.reqDrain = true → l.posted ≠ []
  attends : l.posted ≠ [] → (∃ w, l.port = some (.drain w)) ∨ l.reqDrain = true

/-- A read's access and its request belong to the read in progress (R148). -/
structure ReadOk (l : Link) : Prop where
  current : ∀ r, l.port = some (.read r) → l.forwarded = some r ∧ l.reqRead = false
  waits : l.reqRead = true → l.forwarded ≠ none

/-- A burst and its request belong to a record that has come to it (R138). -/
structure BurstOk (l : Link) (rec : Option Record) : Prop where
  first : ∀ w, l.port = some (.firstBurst w) → l.reqWriteOut = false ∧ ∃ r, rec = some r ∧ r.step = .first
  second : ∀ w, l.port = some (.secondBurst w) → l.reqWriteOut = false ∧ ∃ r, rec = some r ∧ r.step = .second
  waits : l.reqWriteOut = true → ∃ r, rec = some r ∧ r.step ≠ .waiting

/-- The link is in order, but for the arbiter, which may still have a request to grant. -/
structure LinkReady (s : State) : Prop where
  order : s.link.order.Perm [.drain, .read, .writeOut]
  drain : DrainOk s.link
  read : ReadOk s.link
  burst : BurstOk s.link s.out.record

theorem linkInv_iff {s : State} :
    LinkInv s ↔ LinkReady s ∧ (s.link.port = none → ∀ r, s.link.waits r = false) := by
  constructor
  · intro h
    exact ⟨⟨h.order, ⟨h.drainsHead, h.drainWaits, fun hp => (h.draining hp).imp_left Link.draining_iff.mp⟩,
      ⟨h.readsForwarded, h.readWaits⟩, ⟨h.firstOfRecord, h.secondOfRecord, h.writeOutWaits⟩⟩, h.granted⟩
  · rintro ⟨h, hgranted⟩
    exact ⟨h.order, hgranted, h.drain.head, h.drain.waits,
      fun hp => (h.drain.attends hp).imp_left Link.draining_iff.mpr, h.read.current, h.read.waits, h.burst.first,
      h.burst.second, h.burst.waits⟩

theorem LinkInv.ready {s : State} (h : LinkInv s) : LinkReady s := (linkInv_iff.mp h).1

/-- The drain's part where its access, its request and its entries are as before. -/
theorem DrainOk.of_port {l l' : Link} (h : DrainOk l) (hport : ∀ w, l'.port = some (.drain w) ↔ l.port = some (.drain w))
    (hposted : l'.posted = l.posted) (hreq : l'.reqDrain = l.reqDrain) : DrainOk l' where
  head w hw := by
    rw [hposted, hreq]
    exact h.head w ((hport w).mp hw)
  waits hw := by
    rw [hposted]
    exact h.waits (hreq ▸ hw)
  attends hp := by
    rw [hreq]
    exact (h.attends (hposted ▸ hp)).imp_left fun ⟨w, hw⟩ => ⟨w, (hport w).mpr hw⟩

theorem ReadOk.of_port {l l' : Link} (h : ReadOk l) (hport : ∀ r, l'.port = some (.read r) → l.port = some (.read r))
    (hfwd : l'.forwarded = l.forwarded) (hreq : l'.reqRead = l.reqRead) : ReadOk l' where
  current r hr := by
    rw [hfwd, hreq]
    exact h.current r (hport r hr)
  waits hw := by
    rw [hfwd]
    exact h.waits (hreq ▸ hw)

theorem BurstOk.of_port {l l' : Link} {rec : Option Record} (h : BurstOk l rec)
    (hfirst : ∀ w, l'.port = some (.firstBurst w) → l.port = some (.firstBurst w))
    (hsecond : ∀ w, l'.port = some (.secondBurst w) → l.port = some (.secondBurst w))
    (hreq : l'.reqWriteOut = l.reqWriteOut) : BurstOk l' rec where
  first w hw := by
    rw [hreq]
    exact h.first w (hfirst w hw)
  second w hw := by
    rw [hreq]
    exact h.second w (hsecond w hw)
  waits hw := h.waits (hreq ▸ hw)

/-- The port carries no burst. -/
def Link.noBurst (l : Link) : Prop := ∀ w, l.port ≠ some (.firstBurst w) ∧ l.port ≠ some (.secondBurst w)

/-- With neither a burst at the port nor its request, the record may be any. -/
theorem BurstOk.of_quiet {l : Link} {rec : Option Record} (hport : l.noBurst) (hreq : l.reqWriteOut = false) :
    BurstOk l rec where
  first w hw := absurd hw (hport w).1
  second w hw := absurd hw (hport w).2
  waits hw := by
    rw [hreq] at hw
    cases hw

/-- With no record being written there is neither a burst nor its request. -/
theorem BurstOk.quiet {l : Link} (h : BurstOk l none) : l.noBurst ∧ l.reqWriteOut = false := by
  refine ⟨fun w => ⟨fun hw => ?_, fun hw => ?_⟩, Bool.eq_false_iff.mpr fun hw => ?_⟩
  · obtain ⟨_, _, hr, _⟩ := h.first w hw
    cases hr
  · obtain ⟨_, _, hr, _⟩ := h.second w hw
    cases hr
  · obtain ⟨_, hr, _⟩ := h.waits hw
    cases hr

/-! ## The arbiter -/

/-- The engine's access is the burst that the record has come to (R138). -/
theorem accessFor_writeOut {s : State} {a : Access} (h : accessFor s .writeOut = some a) :
    ∃ r w, s.out.record = some r ∧ (r.step = .first ∧ a = .firstBurst w ∨ r.step = .second ∧ a = .secondBurst w) := by
  rw [accessFor] at h
  split at h
  · cases h
  · next r hr =>
    split at h
    · cases h
    · next hs =>
      cases h
      exact ⟨r, _, hr, .inl ⟨hs, rfl⟩⟩
    · next hs =>
      cases h
      exact ⟨r, _, hr, .inr ⟨hs, rfl⟩⟩

/-- The access that is issued belongs to the requester, which waits: a drain that waits has an entry, a read that
waits is in progress, and a record whose burst is requested has come to it. -/
theorem LinkReady.accessFor_ne_none {s : State} (h : LinkReady s) {r : Requester} (hw : s.link.waits r = true) :
    accessFor s r ≠ none := by
  cases r with
  | drain =>
    have hposted := h.drain.waits hw
    simpa [accessFor] using hposted
  | read =>
    have hfwd := h.read.waits hw
    simpa [accessFor] using hfwd
  | writeOut =>
    obtain ⟨rec, hrec, hstep⟩ := h.burst.waits hw
    unfold accessFor
    rw [hrec]
    cases hs : rec.step with
    | waiting => exact absurd hs hstep
    | first => simp [hs]
    | second => simp [hs]

/-- The link after the arbiter has granted `r`. -/
def Link.granted (l : Link) (r : Requester) (a : Option Access) : Link :=
  { l.withdraw r with port := a, age := 0, order := l.order.filter (· != r) ++ [r] }

theorem LinkReady.drain_granted {s : State} (h : LinkReady s) {r : Requester} (hport : s.link.port = none)
    (hw : s.link.waits r = true) : DrainOk (s.link.granted r (accessFor s r)) := by
  cases r with
  | drain =>
    have hposted := h.drain.waits hw
    obtain ⟨w, rest, hcons⟩ := List.exists_cons_of_ne_nil hposted
    have hacc : accessFor s .drain = some (.drain w) := by simp [accessFor, hcons]
    refine ⟨fun x hx => ?_, nofun, fun _ => .inl ⟨w, hacc⟩⟩
    cases hacc.symm.trans hx
    exact ⟨congrArg List.head? hcons, rfl⟩
  | read =>
    refine h.drain.of_port (fun w => ⟨fun hx => ?_, fun hx => ?_⟩) rfl rfl
    · have hx : s.link.forwarded.map Access.read = some (.drain w) := hx
      simp at hx
    · rw [hport] at hx
      cases hx
  | writeOut =>
    refine h.drain.of_port (fun w => ⟨fun hx => ?_, fun hx => ?_⟩) rfl rfl
    · obtain ⟨_, _, _, ⟨_, hx⟩ | ⟨_, hx⟩⟩ := accessFor_writeOut hx
      all_goals cases hx
    · rw [hport] at hx
      cases hx

theorem LinkReady.read_granted {s : State} (h : LinkReady s) {r : Requester} (hw : s.link.waits r = true) :
    ReadOk (s.link.granted r (accessFor s r)) := by
  cases r with
  | drain =>
    refine h.read.of_port (fun x hx => ?_) rfl rfl
    have hx : s.link.posted.head?.map Access.drain = some (.read x) := hx
    simp at hx
  | read =>
    have hfwd := h.read.waits hw
    obtain ⟨x, hx⟩ := Option.ne_none_iff_exists'.mp hfwd
    have hacc : accessFor s .read = some (.read x) := by simp [accessFor, hx]
    refine ⟨fun y hy => ?_, nofun⟩
    cases hacc.symm.trans hy
    exact ⟨hx, rfl⟩
  | writeOut =>
    refine h.read.of_port (fun x hx => ?_) rfl rfl
    obtain ⟨_, _, _, ⟨_, hx⟩ | ⟨_, hx⟩⟩ := accessFor_writeOut hx
    all_goals cases hx

theorem LinkReady.burst_granted {s : State} (h : LinkReady s) {r : Requester} (hw : s.link.waits r = true) :
    BurstOk (s.link.granted r (accessFor s r)) s.out.record := by
  cases r with
  | drain =>
    refine h.burst.of_port (fun x hx => ?_) (fun x hx => ?_) rfl
    all_goals
      have hx : s.link.posted.head?.map Access.drain = _ := hx
      simp at hx
  | read =>
    refine h.burst.of_port (fun x hx => ?_) (fun x hx => ?_) rfl
    all_goals
      have hx : s.link.forwarded.map Access.read = _ := hx
      simp at hx
  | writeOut =>
    refine ⟨fun x hx => ⟨rfl, ?_⟩, fun x hx => ⟨rfl, ?_⟩, nofun⟩
    · obtain ⟨r, _, hr, ⟨hs, _⟩ | ⟨_, hx⟩⟩ := accessFor_writeOut hx
      · exact ⟨r, hr, hs⟩
      · cases hx
    · obtain ⟨r, _, hr, ⟨_, hx⟩ | ⟨hs, _⟩⟩ := accessFor_writeOut hx
      · cases hx
      · exact ⟨r, hr, hs⟩

/-- The requester granted moves to the bottom: the order still holds each once. -/
theorem order_granted {l : List Requester} (h : l.Perm [.drain, .read, .writeOut]) (r : Requester) :
    (l.filter (· != r) ++ [r]).Perm [.drain, .read, .writeOut] := by
  refine ((h.filter (· != r)).append_right [r]).trans ?_
  cases r <;> decide

/-- What the arbiter leaves is in order, and no request waits at a free port. -/
theorem LinkReady.grant {s : State} (h : LinkReady s) : LinkInv (grant s) := by
  rw [linkInv_iff]
  rcases grant_cases s with ⟨hsame, hport⟩ | ⟨r, hport, hfind⟩
  · rw [hsame]
    refine ⟨h, fun hnone r => ?_⟩
    rcases hport with ⟨a, ha⟩ | ⟨_, hfind⟩
    · rw [hnone] at ha
      cases ha
    · have hmem : r ∈ s.link.order := h.order.mem_iff.mpr (by cases r <;> decide)
      exact Bool.eq_false_iff.mpr (List.find?_eq_none.mp hfind r hmem)
  · have hw : s.link.waits r = true := List.find?_some hfind
    rw [grant_given hport hfind]
    exact ⟨⟨order_granted h.order r, h.drain_granted hport hw, h.read_granted hw, h.burst_granted hw⟩,
      fun hnone => absurd hnone (h.accessFor_ne_none hw)⟩

/-! ## The events of the link -/

theorem LinkInv.of_link {s t : State} (h : LinkInv s) (hl : t.link = s.link) (hr : t.out.record = s.out.record) :
    LinkInv t := by
  rw [linkInv_iff] at h ⊢
  obtain ⟨⟨horder, hdrain, hread, hburst⟩, hgranted⟩ := h
  refine ⟨⟨?_, ?_, ?_, ?_⟩, ?_⟩
  · rwa [hl]
  · rwa [hl]
  · rwa [hl]
  · rwa [hl, hr]
  · rwa [hl]

/-- With no record being written the engine may form another: the link asks nothing of it. -/
theorem LinkInv.of_idle {s t : State} (h : LinkInv s) (hl : t.link = s.link) (hr : s.out.record = none) :
    LinkInv t := by
  rw [linkInv_iff] at h ⊢
  obtain ⟨⟨horder, hdrain, hread, hburst⟩, hgranted⟩ := h
  rw [hr] at hburst
  obtain ⟨hport, hreq⟩ := hburst.quiet
  rw [← hl] at horder hdrain hread hport hreq hgranted
  exact ⟨⟨horder, hdrain, hread, .of_quiet hport hreq⟩, hgranted⟩

/-- The age of the access is no part of the order (R157). -/
theorem LinkInv.age {s : State} (h : LinkInv s) (n : Nat) : LinkInv { s with link := { s.link with age := n } } := by
  rw [linkInv_iff] at h ⊢
  obtain ⟨⟨horder, hdrain, hread, hburst⟩, hgranted⟩ := h
  exact ⟨⟨horder, hdrain.of_port (fun _ => .rfl) rfl rfl, hread.of_port (fun _ => id) rfl rfl,
    hburst.of_port (fun _ => id) (fun _ => id) rfl⟩, hgranted⟩

/-- A write goes to the end of the buffer, and the drain waits or drains (R151, R152). -/
theorem LinkInv.appendPosted {s : State} (h : LinkInv s) (t : WriteTxn) : LinkInv (appendPosted t s) := by
  obtain ⟨horder, hdrain, hread, hburst⟩ := h.ready
  rw [appendPosted_eq]
  refine LinkReady.grant ⟨horder, ⟨fun w hw => ?_, fun _ => List.concat_ne_nil _ _, fun _ => ?_⟩,
    hread.of_port (fun _ => id) rfl rfl, hburst.of_port (fun _ => id) (fun _ => id) rfl⟩
  · obtain ⟨hhead, hreq⟩ := hdrain.head w hw
    have hdraining : s.link.draining = true := Link.draining_iff.mpr ⟨w, hw⟩
    refine ⟨?_, by simp [hreq, hdraining]⟩
    cases hposted : s.link.posted with
    | nil =>
      rw [hposted] at hhead
      cases hhead
    | cons x rest =>
      rw [hposted] at hhead
      exact hhead
  · cases hd : s.link.draining with
    | true => exact .inl (Link.draining_iff.mp hd)
    | false => exact .inr (by simp)

theorem LinkInv.postWrite {s : State} (h : LinkInv s) (t : WriteTxn) : LinkInv (postWrite t s) := by
  unfold Machine.postWrite
  split
  · exact (h.appendPosted t).of_link rfl rfl
  · exact h.of_link rfl rfl

/-- A read is forwarded while none is in progress (R148, R155). -/
theorem LinkInv.forwardRead {s : State} (h : LinkInv s) (r : ReadTxn) (hfree : s.link.forwarded = none) :
    LinkInv (forwardRead r s) := by
  unfold Machine.forwardRead
  split
  · exact h.of_link rfl rfl
  · obtain ⟨horder, hdrain, hread, hburst⟩ := h.ready
    refine LinkReady.grant ⟨horder, hdrain.of_port (fun _ => .rfl) rfl rfl, ⟨fun x hx => ?_, fun _ => nofun⟩,
      hburst.of_port (fun _ => id) (fun _ => id) rfl⟩
    obtain ⟨hfwd, _⟩ := hread.current x hx
    rw [hfree] at hfwd
    cases hfwd

/-- The head entry leaves the buffer, and the drain waits where another stands (R152, R153). -/
theorem LinkInv.endDrain {s : State} (h : LinkInv s) {w : WriteTxn} (hport : s.link.port = some (.drain w)) :
    LinkInv (endDrain s) := by
  obtain ⟨horder, hdrain, hread, hburst⟩ := h.ready
  obtain ⟨_, hreq⟩ := hdrain.head w hport
  unfold Machine.endDrain
  rw [requestDrain_eq]
  refine LinkReady.grant ⟨horder, ⟨nofun, fun hx => ?_, fun hx => .inr ?_⟩,
    hread.of_port (nofun) rfl rfl,
    hburst.of_port (nofun) (nofun) rfl⟩
  · have hx : (s.link.reqDrain || (!s.link.posted.tail.isEmpty && true)) = true := hx
    show s.link.posted.tail ≠ []
    simpa [hreq] using hx
  · have hx : s.link.posted.tail ≠ [] := hx
    show (s.link.reqDrain || (!s.link.posted.tail.isEmpty && true)) = true
    simpa [hreq] using hx

theorem LinkInv.discardDrain {s : State} (h : LinkInv s) {w : WriteTxn} (hport : s.link.port = some (.drain w)) :
    LinkInv (discardDrain s) := by
  obtain ⟨hready, hgranted⟩ := linkInv_iff.mp h
  obtain ⟨horder, hdrain, hread, hburst⟩ := hready
  unfold Machine.discardDrain
  refine LinkInv.endDrain (w := w) (linkInv_iff.mpr ⟨⟨horder, hdrain.of_port (fun _ => .rfl) rfl rfl,
    hread.of_port (fun _ => id) rfl rfl, hburst.of_port (fun _ => id) (fun _ => id) rfl⟩, hgranted⟩) hport

/-- The read ends and its access with it (R156). -/
theorem LinkInv.endRead {s : State} (h : LinkInv s) {q : ReadTxn} (hport : s.link.port = some (.read q))
    (r : Response) : LinkInv (endRead r s) := by
  obtain ⟨horder, hdrain, hread, hburst⟩ := h.ready
  obtain ⟨_, hreq⟩ := hread.current q hport
  refine LinkReady.grant ⟨horder, hdrain.of_port (fun w => ⟨nofun, fun hx => ?_⟩) rfl rfl,
    ⟨nofun, fun hx => ?_⟩, hburst.of_port (nofun) (nofun) rfl⟩
  · cases hport.symm.trans hx
  · cases hreq.symm.trans hx

/-- An access whose answer is disregarded ends (R164). -/
theorem LinkInv.endDisregarded {s : State} (h : LinkInv s) {x : Txn} (hport : s.link.port = some (.disregarded x)) :
    LinkInv (grant (freePort s)) := by
  obtain ⟨horder, hdrain, hread, hburst⟩ := h.ready
  refine LinkReady.grant ⟨horder, hdrain.of_port (fun w => ⟨nofun, fun hx => ?_⟩) rfl rfl,
    hread.of_port (nofun) rfl rfl,
    hburst.of_port (nofun) (nofun) rfl⟩
  cases hport.symm.trans hx

/-- A burst ends, and the engine may go on to any record (R139, R142). -/
theorem LinkInv.endBurst {s t : State} (h : LinkInv s) {w : WriteTxn}
    (hport : s.link.port = some (.firstBurst w) ∨ s.link.port = some (.secondBurst w)) (hl : t.link = s.link) :
    LinkInv (grant (freePort t)) := by
  obtain ⟨horder, hdrain, hread, hburst⟩ := h.ready
  have hreq : s.link.reqWriteOut = false := by
    rcases hport with hport | hport
    · exact (hburst.first w hport).1
    · exact (hburst.second w hport).1
  rw [← hl] at horder hdrain hread hport hreq
  refine LinkReady.grant ⟨horder, hdrain.of_port (fun w => ⟨nofun, fun hx => ?_⟩) rfl rfl,
    hread.of_port (nofun) rfl rfl, .of_quiet (fun _ => ⟨nofun, nofun⟩) hreq⟩
  rcases hport with hport | hport
  · cases hport.symm.trans hx
  · cases hport.symm.trans hx

/-- The engine requests the port for the burst that a waiting record comes to (R138). -/
theorem LinkInv.requestFirst {s : State} (h : LinkInv s) {r : Record} (hr : s.out.record = some r)
    (hs : r.step = .waiting) : LinkInv (grant (requestWriteOut (advanceRecord .first s))) := by
  obtain ⟨horder, hdrain, hread, hburst⟩ := h.ready
  have hadvanced : (s.out.record.map fun r => { r with step := .first }) = some { r with step := .first } :=
    congrArg _ hr
  refine LinkReady.grant ⟨horder, hdrain.of_port (fun _ => .rfl) rfl rfl, hread.of_port (fun _ => id) rfl rfl,
    ⟨fun w hw => ?_, fun w hw => ?_, fun _ => ⟨_, hadvanced, nofun⟩⟩⟩
  · obtain ⟨_, r', hr', hs'⟩ := hburst.first w hw
    cases hr.symm.trans hr'
    cases hs.symm.trans hs'
  · obtain ⟨_, r', hr', hs'⟩ := hburst.second w hw
    cases hr.symm.trans hr'
    cases hs.symm.trans hs'

/-- The first burst ends, and the engine requests the port for the second (R138). -/
theorem LinkInv.requestSecond {s : State} (h : LinkInv s) {w : WriteTxn} (hport : s.link.port = some (.firstBurst w)) :
    LinkInv (grant (freePort (requestWriteOut (advanceRecord .second s)))) := by
  obtain ⟨horder, hdrain, hread, hburst⟩ := h.ready
  obtain ⟨_, r, hr, _⟩ := hburst.first w hport
  have hadvanced : (s.out.record.map fun r => { r with step := .second }) = some { r with step := .second } :=
    congrArg _ hr
  refine LinkReady.grant ⟨horder, hdrain.of_port (fun w => ⟨nofun, fun hx => ?_⟩) rfl rfl,
    hread.of_port (nofun) rfl rfl,
    ⟨nofun, nofun, fun _ => ⟨_, hadvanced, nofun⟩⟩⟩
  cases hport.symm.trans hx

/-- The port once a read there is dropped: its access runs on, its answer disregarded (R164). -/
def disregardRead : Option Access → Option Access
  | some (.read r) => some (.disregarded (.read r))
  | p => p

theorem disregardRead_ne_read (p : Option Access) (r : ReadTxn) : disregardRead p ≠ some (.read r) := by
  unfold disregardRead
  split
  · nofun
  · next hno => exact hno r

/-- Any access that is neither a read nor disregarded is at the port as it was. -/
theorem disregardRead_eq_iff {p : Option Access} {a : Access} (hread : ∀ r, a ≠ .read r)
    (hdis : ∀ x, a ≠ .disregarded x) : disregardRead p = some a ↔ p = some a := by
  unfold disregardRead
  split
  · next r =>
    exact ⟨fun h => absurd (Option.some.inj h).symm (hdis _), fun h => absurd (Option.some.inj h).symm (hread r)⟩
  · exact .rfl

theorem disregardRead_none {p : Option Access} (h : disregardRead p = none) : p = none := by
  unfold disregardRead at h
  split at h
  · cases h
  · exact h

theorem dropRead_some {s : State} {q : ReadTxn} (h : s.link.forwarded = some q) : dropRead s = { s with
    answer := none
    link := { s.link with forwarded := none, reqRead := false, port := disregardRead s.link.port } } := by
  unfold dropRead
  rw [h]
  rfl

/-- The forwarded read is dropped, and an access of its runs on (R163, R164). -/
theorem LinkInv.dropRead {s : State} (h : LinkInv s) : LinkInv (dropRead s) := by
  cases hfwd : s.link.forwarded with
  | none =>
    unfold Machine.dropRead
    rw [hfwd]
    exact h
  | some q =>
    obtain ⟨⟨horder, hdrain, hread, hburst⟩, hgranted⟩ := linkInv_iff.mp h
    rw [linkInv_iff, dropRead_some hfwd]
    refine ⟨⟨horder, hdrain.of_port (fun w => disregardRead_eq_iff (a := .drain w) nofun nofun) rfl rfl,
      ⟨fun r hr => absurd hr (disregardRead_ne_read _ r), nofun⟩,
      hburst.of_port (fun w => (disregardRead_eq_iff (a := .firstBurst w) nofun nofun).mp)
        (fun w => (disregardRead_eq_iff (a := .secondBurst w) nofun nofun).mp) rfl⟩, fun hnone r => ?_⟩
    have hfree := hgranted (disregardRead_none hnone)
    cases r with
    | drain => exact hfree .drain
    | read => rfl
    | writeOut => exact hfree .writeOut

end Sys2Proof.Machine
end

section
/-! SUPPORT. The write-out engine in order at every event (R130, R133, R135, R136): the engine that is free to choose,
what it chooses, and each event that frees it or hands it work. -/

namespace Sys2Proof.Machine

/-! ## Channels -/

theorem Channel.eq_or_other (d c : Channel) : d = c ∨ d = c.other := by cases d <;> cases c <;> decide

@[simp] theorem Channel.other_other (c : Channel) : c.other.other = c := by cases c <;> rfl

theorem Channel.other_ne (c : Channel) : c.other ≠ c := by cases c <;> decide

@[simp] theorem WriteOut.setChan_same (o : WriteOut) (c : Channel) (x : Chan) : (o.setChan c x).chan c = x := by
  cases c <;> rfl

@[simp] theorem WriteOut.setChan_other (o : WriteOut) (c : Channel) (x : Chan) :
    (o.setChan c x).chan c.other = o.chan c.other := by cases c <;> rfl

/-- A replaced channel is all that changes. -/
theorem WriteOut.setChan_eq (o : WriteOut) (c : Channel) (x : Chan) :
    o.setChan c x = { o with chanI := (o.setChan c x).chanI, chanP := (o.setChan c x).chanP } := by cases c <;> rfl

/-- Anything said of every channel is said of one and of the other. -/
theorem Channel.forall_iff (c : Channel) {p : Channel → Prop} : (∀ d, p d) ↔ p c ∧ p c.other := by
  constructor
  · exact fun h => ⟨h c, h c.other⟩
  · rintro ⟨hc, hother⟩ d
    rcases d.eq_or_other c with rfl | rfl
    · exact hc
    · exact hother

theorem WriteOut.active_none_iff {o : WriteOut} : o.active = none ↔ ∀ c, (o.chan c).state ≠ .active := by
  rw [Channel.forall_iff .i]
  unfold WriteOut.active WriteOut.chan Channel.other
  split
  · next h => exact ⟨fun hno => (by cases hno), fun ⟨hno, _⟩ => absurd h hno⟩
  · next hi =>
    split
    · next h => exact ⟨fun hno => (by cases hno), fun ⟨_, hno⟩ => absurd h hno⟩
    · next hp => exact ⟨fun _ => ⟨hi, hp⟩, fun _ => rfl⟩

theorem WriteOut.active_some {o : WriteOut} {c : Channel} (h : o.active = some c) : (o.chan c).state = .active := by
  unfold WriteOut.active at h
  split at h
  · next hi =>
    cases h
    exact hi
  · split at h
    · next hp =>
      cases h
      exact hp
    · cases h

/-! ## Work -/

theorem hasWork_congr {s t : State} (hh : t.out.holding = s.out.holding) (hs : t.snapshots = s.snapshots)
    (hp : t.period.trailer = s.period.trailer) (c : Channel) : hasWork t c = hasWork s c := by
  cases c <;> simp only [hasWork, State.snapshotHeld, hh, hs, hp]

theorem State.snapshotHeld_iff {s : State} : s.snapshotHeld = true ↔ ∃ u : UnitId, s.snapshots[u].isSome = true := by
  unfold State.snapshotHeld
  rw [Vector.any_eq_true]
  exact ⟨fun ⟨i, hi, h⟩ => ⟨⟨i, hi⟩, h⟩, fun ⟨u, h⟩ => ⟨u.val, u.isLt, h⟩⟩

theorem State.markHeld_iff {s : State} :
    s.markHeld = true ↔ ∃ (u : UnitId) (x : Statement), s.snapshots[u] = some x ∧ x.mark = true := by
  unfold State.markHeld
  rw [Vector.any_eq_true]
  constructor
  · rintro ⟨i, hi, h⟩
    split at h
    · next x hx => exact ⟨⟨i, hi⟩, x, hx, h⟩
    · cases h
  · rintro ⟨u, x, hx, hmark⟩
    refine ⟨u.val, u.isLt, ?_⟩
    rw [show s.snapshots[u.val] = some x from hx]
    exact hmark

/-- Channel P has work: a snapshot held or trailer figures (R133). -/
theorem hasWork_p_iff {s : State} :
    hasWork s .p = true ↔ (∃ u : UnitId, s.snapshots[u].isSome = true) ∨ s.period.trailer.isSome = true := by
  rw [show hasWork s .p = (s.snapshotHeld || s.period.trailer.isSome) from rfl, Bool.or_eq_true,
    State.snapshotHeld_iff]

/-- Where snapshots held and trailer figures stay, channel P keeps its work. -/
theorem hasWork_p_of_held {s t : State} (hs : ∀ u : UnitId, s.snapshots[u].isSome = true → t.snapshots[u].isSome = true)
    (hp : s.period.trailer.isSome = true → t.period.trailer.isSome = true) (h : hasWork s .p = true) :
    hasWork t .p = true := by
  rw [hasWork_p_iff] at h ⊢
  exact h.imp (fun ⟨u, hu⟩ => ⟨u, hs u hu⟩) hp

/-- A channel with work has an item to write, of its kind (R135). -/
theorem nextItem_of_hasWork {s : State} {c : Channel} (h : hasWork s c = true) :
    ∃ it, nextItem s c = some it ∧ it.ofChannel c := by
  cases c with
  | i =>
    refine ⟨.summary, ?_, rfl⟩
    have hne : s.out.holding.isEmpty = false := by simpa [hasWork] using h
    simp [nextItem, hne]
  | p =>
    unfold nextItem
    dsimp only
    split
    · exact ⟨.trailer, rfl, rfl⟩
    · next hno =>
      have hheld : ∃ u : UnitId, s.snapshots[u].isSome = true := by
        rcases hasWork_p_iff.mp h with hheld | htrailer
        · exact hheld
        · have hmark : s.markHeld = true := by simpa [htrailer] using hno
          obtain ⟨u, x, hx, _⟩ := State.markHeld_iff.mp hmark
          exact ⟨u, by rw [hx]; rfl⟩
      obtain ⟨u, hu⟩ := hheld
      cases hfind : (List.finRange 256).find? fun u : UnitId => s.snapshots[u].isSome with
      | none => exact absurd hu (List.find?_eq_none.mp hfind u (List.mem_finRange u))
      | some v => exact ⟨.statement v, rfl, rfl⟩

/-! ## The engine free to choose -/

/-- The engine is free: no channel is ACTIVE and no record is being written; any channel may be PENDING. -/
structure EngineFree (s : State) : Prop where
  pointers : s.out.w = s.out.x + BitVec.ofNat 11 s.out.u
  bound : s.out.u ≤ 2048
  inactive : ∀ c, (s.out.chan c).state ≠ .active
  noRecord : s.out.record = none
  waitingFull : ∀ c, (s.out.chan c).state = .waitingExport → s.out.u = 2048
  busyHasWork : ∀ c, (s.out.chan c).state ≠ .idle → hasWork s c = true

theorem WriteOutInv.free {s : State} (h : WriteOutInv s) (hidle : s.out.active = none) : EngineFree s :=
  ⟨h.pointers, h.bound, WriteOut.active_none_iff.mp hidle, h.noRecordFree hidle, h.waitingFull, h.busyHasWork⟩

/-- With no channel PENDING the free engine is in order. -/
theorem EngineFree.rest {s : State} (h : EngineFree s) (hno : ∀ c, (s.out.chan c).state ≠ .pending) : WriteOutInv s where
  pointers := h.pointers
  bound := h.bound
  oneActive hboth := h.inactive .i hboth.1
  activeRoom c hc := absurd hc (h.inactive c)
  waitingFull := h.waitingFull
  pendingBehind c hc := absurd hc (hno c)
  busyHasWork := h.busyHasWork
  recordOfActive c hc := absurd hc (h.inactive c)
  noRecordFree _ := h.noRecord
  lastIsActive c hc := absurd hc (h.inactive c)

/-- The state of a channel once those PENDING wait for an EXPORT (R136). -/
def Chan.waited (x : Chan) : Chan := if x.state = .pending then { x with state := .waitingExport } else x

theorem Chan.waited_ne_pending (x : Chan) : x.waited.state ≠ .pending := by
  unfold Chan.waited
  split
  · exact nofun
  · assumption

theorem Chan.waited_ne_active {x : Chan} (h : x.state ≠ .active) : x.waited.state ≠ .active := by
  unfold Chan.waited
  split
  · exact nofun
  · exact h

theorem Chan.of_waited_ne_idle {x : Chan} (h : x.waited.state ≠ .idle) : x.state ≠ .idle := by
  unfold Chan.waited at h
  split at h
  · next hp =>
    rw [hp]
    decide
  · exact h

theorem pendingToWaiting_out (c : Channel) (s : State) :
    (pendingToWaiting c s).out = s.out.setChan c (s.out.chan c).waited := by
  unfold pendingToWaiting Chan.waited
  split
  · rfl
  · cases c <;> rfl

/-- What the engine makes of a state in which it is free: it stays free, it starts a channel that is PENDING, or, with
no room in the ring, each PENDING channel waits (R136). -/
theorem choose_cases {s : State} (hfree : ∀ c, (s.out.chan c).state ≠ .active) :
    (s.out.u < 2048 ∧ (∀ c, (s.out.chan c).state ≠ .pending) ∧ choose s = s) ∨
      (s.out.u < 2048 ∧ ∃ c, (s.out.chan c).state = .pending ∧ choose s = activate c s) ∨
      (2048 ≤ s.out.u ∧ (choose s).out =
        { s.out with chanI := s.out.chanI.waited, chanP := s.out.chanP.waited }) := by
  have hidle : ¬ s.out.active.isSome = true := by rw [WriteOut.active_none_iff.mpr hfree]; decide
  unfold choose
  rw [if_neg hidle]
  split
  · next hroom =>
    split
    · next hi =>
      split
      · next hp =>
        refine .inr (.inl ⟨hroom, _, ?_, rfl⟩)
        cases s.out.lastActive
        · exact hp
        · exact hi
      · exact .inr (.inl ⟨hroom, .i, hi, rfl⟩)
    · next hi =>
      split
      · next hp => exact .inr (.inl ⟨hroom, .p, hp, rfl⟩)
      · next hp => exact .inl ⟨hroom, (Channel.forall_iff .i).mpr ⟨hi, hp⟩, rfl⟩
  · next hfull =>
    refine .inr (.inr ⟨Nat.le_of_not_lt hfull, ?_⟩)
    rw [pendingToWaiting_out, pendingToWaiting_out]
    rfl

/-- An ACTIVE channel keeps the engine from choosing. -/
theorem choose_active {s : State} {c : Channel} (h : s.out.active = some c) : choose s = s :=
  if_pos (by rw [h]; rfl)

theorem activate_chan_other (c : Channel) (s : State) :
    ((activate c s).out.chan c.other) = s.out.chan c.other := by cases c <;> rfl

theorem activate_chan_state (c : Channel) (s : State) : ((activate c s).out.chan c).state = .active := by
  cases c <;> rfl

theorem activate_work (c d : Channel) (s : State) : hasWork (activate c s) d = hasWork s d := by
  refine hasWork_congr (s := s) (t := activate c s) ?_ rfl rfl d
  cases c <;> rfl

/-- A PENDING channel of a free engine becomes ACTIVE, with the record of its next item (R135, R136, R138). -/
theorem EngineFree.activate {s : State} (h : EngineFree s) (hroom : s.out.u < 2048) {c : Channel}
    (hc : (s.out.chan c).state = .pending) : WriteOutInv (activate c s) := by
  have hu : (Machine.activate c s).out.u = s.out.u := by cases c <;> rfl
  have hwork : hasWork s c = true := h.busyHasWork c (by rw [hc]; decide)
  obtain ⟨it, hit, hof⟩ := nextItem_of_hasWork hwork
  have hrec : (Machine.activate c s).out.record = some (formRecord s it) := by
    rw [show (Machine.activate c s).out.record = (nextItem s c).map (formRecord s) from rfl, hit]
    rfl
  have hinactive : ((Machine.activate c s).out.chan c.other).state ≠ .active := by
    rw [activate_chan_other]
    exact h.inactive c.other
  refine ⟨?_, ?_, ?_, fun d _ => hu ▸ hroom, ?_, ?_, ?_, ?_, fun hno => ?_, ?_⟩
  · cases c <;> exact h.pointers
  · cases c <;> exact h.bound
  · rintro ⟨hi, hp⟩
    cases c
    · exact hinactive hp
    · exact hinactive hi
  · refine (Channel.forall_iff c).mpr ⟨fun hw => ?_, fun hw => ?_⟩
    · rw [activate_chan_state] at hw
      cases hw
    · rw [activate_chan_other] at hw
      exact hu ▸ h.waitingFull c.other hw
  · refine (Channel.forall_iff c).mpr ⟨fun hw => ?_, fun _ => ?_⟩
    · rw [activate_chan_state] at hw
      cases hw
    · rw [Channel.other_other]
      exact activate_chan_state c s
  · refine (Channel.forall_iff c).mpr ⟨fun _ => ?_, fun hw => ?_⟩
    · rw [activate_work]
      exact hwork
    · rw [activate_work]
      rw [activate_chan_other] at hw
      exact h.busyHasWork c.other hw
  · exact (Channel.forall_iff c).mpr ⟨fun _ => ⟨_, hrec, hof⟩, fun hw => absurd hw hinactive⟩
  · exact absurd (activate_chan_state c s) (WriteOut.active_none_iff.mp hno c)
  · exact (Channel.forall_iff c).mpr ⟨fun _ => rfl, fun hw => absurd hw hinactive⟩

theorem choose_work (s : State) (c : Channel) : hasWork (choose s) c = hasWork s c := by
  obtain ⟨o, st, hframe⟩ := choose_frame s
  refine hasWork_congr ?_ ?_ ?_ c
  · exact congrArg (fun q => q.2.2.2) (choose_queues s)
  · rw [hframe]
  · rw [hframe]

/-- A free engine that has chosen is in order. -/
theorem EngineFree.choose {s : State} (h : EngineFree s) : WriteOutInv (choose s) := by
  rcases choose_cases h.inactive with ⟨_, hno, hsame⟩ | ⟨hroom, c, hc, hact⟩ | ⟨hfull, hout⟩
  · rw [hsame]
    exact h.rest hno
  · rw [hact]
    exact h.activate hroom hc
  · have hchan : ∀ c, (Machine.choose s).out.chan c = (s.out.chan c).waited := fun c => by
      rw [hout]
      cases c <;> rfl
    have hu : (Machine.choose s).out.u = s.out.u := by rw [hout]
    refine EngineFree.rest ⟨?_, ?_, fun c => ?_, ?_, fun c _ => ?_, fun c hc => ?_⟩ fun c => ?_
    · rw [hout]
      exact h.pointers
    · rw [hu]
      exact h.bound
    · rw [hchan]
      exact Chan.waited_ne_active (h.inactive c)
    · rw [hout]
      exact h.noRecord
    · rw [hu]
      exact Nat.le_antisymm h.bound hfull
    · rw [choose_work]
      rw [hchan] at hc
      exact h.busyHasWork c (Chan.of_waited_ne_idle hc)
    · rw [hchan]
      exact Chan.waited_ne_pending _

/-! ## Work handed to a channel -/

/-- With the engine as it was, and more work or as much, the engine is in order. -/
theorem WriteOutInv.of_engine {s t : State} (h : WriteOutInv s)
    (ho : t.out = { s.out with holding := t.out.holding, lost := t.out.lost })
    (hwork : ∀ c, hasWork s c = true → hasWork t c = true) : WriteOutInv t := by
  have hchan : ∀ c, t.out.chan c = s.out.chan c := fun c => by
    rw [ho]
    cases c <;> rfl
  have hactive : t.out.active = s.out.active := by
    rw [ho]
    rfl
  have hu : t.out.u = s.out.u := by rw [ho]
  have hrec : t.out.record = s.out.record := by rw [ho]
  refine ⟨?_, hu ▸ h.bound, ?_, fun c hc => ?_, fun c hc => ?_, fun c hc => ?_, fun c hc => ?_, fun c hc => ?_,
    fun hno => ?_, fun c hc => ?_⟩
  · rw [ho]
    exact h.pointers
  · rw [ho]
    exact h.oneActive
  · rw [hu]
    exact h.activeRoom c (hchan c ▸ hc)
  · rw [hu]
    exact h.waitingFull c (hchan c ▸ hc)
  · rw [hchan]
    exact h.pendingBehind c (hchan c ▸ hc)
  · exact hwork c (h.busyHasWork c (hchan c ▸ hc))
  · rw [hrec]
    exact h.recordOfActive c (hchan c ▸ hc)
  · rw [hrec]
    exact h.noRecordFree (hactive ▸ hno)
  · rw [ho]
    exact h.lastIsActive c (hchan c ▸ hc)

theorem setChanState_work (c d : Channel) (st : ChannelState) (s : State) :
    hasWork (setChanState c st s) d = hasWork s d := by
  refine hasWork_congr (s := s) (t := setChanState c st s) ?_ rfl rfl d
  cases c <;> rfl

theorem setChanState_u (c : Channel) (st : ChannelState) (s : State) : (setChanState c st s).out.u = s.out.u := by
  cases c <;> rfl

theorem setChanState_record (c : Channel) (st : ChannelState) (s : State) :
    (setChanState c st s).out.record = s.out.record := by cases c <;> rfl

theorem setChanState_chan (c : Channel) (st : ChannelState) (s : State) :
    ((setChanState c st s).out.chan c).state = st ∧
      (setChanState c st s).out.chan c.other = s.out.chan c.other := by cases c <;> exact ⟨rfl, rfl⟩

/-- The engine is free, but for the state of channel `c`, which is still to be set. -/
structure EngineFreeBut (c : Channel) (s : State) : Prop where
  pointers : s.out.w = s.out.x + BitVec.ofNat 11 s.out.u
  bound : s.out.u ≤ 2048
  inactive : (s.out.chan c.other).state ≠ .active
  noRecord : s.out.record = none
  waitingFull : (s.out.chan c.other).state = .waitingExport → s.out.u = 2048
  busyHasWork : (s.out.chan c.other).state ≠ .idle → hasWork s c.other = true

/-- A channel is set: IDLE, PENDING with work, or, with work, waiting where the ring is full. -/
theorem EngineFreeBut.setChanState {s : State} {c : Channel} (h : EngineFreeBut c s) {st : ChannelState}
    (hst : st ≠ .active) (hfull : st = .waitingExport → s.out.u = 2048) (hwork : st ≠ .idle → hasWork s c = true) :
    EngineFree (setChanState c st s) := by
  obtain ⟨hsame, hother⟩ := setChanState_chan c st s
  refine ⟨?_, ?_, ?_, ?_, ?_, ?_⟩
  · cases c <;> exact h.pointers
  · rw [setChanState_u]
    exact h.bound
  · rw [Channel.forall_iff c, hsame, hother]
    exact ⟨hst, h.inactive⟩
  · rw [setChanState_record]
    exact h.noRecord
  · rw [Channel.forall_iff c, hsame, hother, setChanState_u]
    exact ⟨hfull, h.waitingFull⟩
  · rw [Channel.forall_iff c, hsame, hother, setChanState_work, setChanState_work]
    exact ⟨hwork, h.busyHasWork⟩

theorem EngineFree.but {s : State} (h : EngineFree s) (c : Channel) : EngineFreeBut c s :=
  ⟨h.pointers, h.bound, h.inactive c.other, h.noRecord, h.waitingFull c.other, h.busyHasWork c.other⟩

/-- Behind an ACTIVE channel an IDLE one becomes PENDING. -/
theorem WriteOutInv.pendBehind {s : State} (h : WriteOutInv s) {c : Channel} (hidle : (s.out.chan c).state = .idle)
    (hactive : (s.out.chan c.other).state = .active) (hwork : hasWork s c = true) :
    WriteOutInv (setChanState c .pending s) := by
  obtain ⟨hsame, hother⟩ := setChanState_chan c .pending s
  refine ⟨?_, ?_, ?_, ?_, ?_, ?_, ?_, ?_, fun hno => ?_, ?_⟩
  · cases c <;> exact h.pointers
  · rw [setChanState_u]
    exact h.bound
  · rintro ⟨hi, hp⟩
    cases c
    · cases hsame.symm.trans hi
    · cases hsame.symm.trans hp
  · rw [Channel.forall_iff c, hsame, hother, setChanState_u]
    exact ⟨nofun, h.activeRoom c.other⟩
  · rw [Channel.forall_iff c, hsame, hother, setChanState_u]
    exact ⟨nofun, h.waitingFull c.other⟩
  · rw [Channel.forall_iff c, hsame, hother, Channel.other_other]
    exact ⟨fun _ => hactive, fun hpend => by rw [hactive] at hpend; cases hpend⟩
  · rw [Channel.forall_iff c, hsame, hother, setChanState_work, setChanState_work]
    exact ⟨fun _ => hwork, h.busyHasWork c.other⟩
  · rw [Channel.forall_iff c, hsame, hother, setChanState_record]
    exact ⟨nofun, h.recordOfActive c.other⟩
  · exact absurd (hother ▸ hactive) (WriteOut.active_none_iff.mp hno c.other)
  · rw [Channel.forall_iff c, hsame, hother]
    refine ⟨nofun, fun _ => ?_⟩
    rw [← h.lastIsActive c.other hactive]
    cases c <;> rfl

/-- A full ring: the IDLE channel waits for an EXPORT. -/
theorem WriteOutInv.enterWaiting {s : State} (h : WriteOutInv s) {c : Channel} (hfull : s.out.u = 2048)
    (hwork : hasWork s c = true) : WriteOutInv (enterWaiting c s) := by
  have hinactive : ∀ d, (s.out.chan d).state ≠ .active := fun d hd => by
    have hroom := h.activeRoom d hd
    omega
  have hnopending : (s.out.chan c.other).state ≠ .pending := fun hp => by
    have hactive := h.pendingBehind c.other hp
    exact hinactive _ hactive
  have hfree : EngineFree (Machine.setChanState c .waitingExport s) :=
    ((h.free (WriteOut.active_none_iff.mpr hinactive)).but c).setChanState nofun (fun _ => hfull) fun _ => hwork
  obtain ⟨hsame, hother⟩ := setChanState_chan c .waitingExport s
  refine WriteOutInv.of_engine (s := Machine.setChanState c .waitingExport s) (hfree.rest ?_) rfl fun d => ?_
  · rw [Channel.forall_iff c, hsame, hother]
    exact ⟨nofun, hnopending⟩
  · exact fun hd => hd

/-- Work is handed to a channel that has it (R134, R135, R146). -/
theorem WriteOutInv.handWork {s : State} (h : WriteOutInv s) {c : Channel} (hwork : hasWork s c = true) :
    WriteOutInv (handWork c s) := by
  unfold Machine.handWork
  split
  · next hidle =>
    split
    · obtain ⟨hsame, hother⟩ := setChanState_chan c .pending s
      cases hactive : s.out.active with
      | none =>
        exact (((h.free hactive).but c).setChanState (st := .pending) nofun nofun fun _ => hwork).choose
      | some d =>
        have hd := WriteOut.active_some hactive
        rcases d.eq_or_other c with rfl | rfl
        · cases hidle.symm.trans hd
        · have hpend := h.pendBehind hidle hd hwork
          have hstill : (Machine.setChanState c .pending s).out.active ≠ none := fun hno =>
            WriteOut.active_none_iff.mp hno c.other (hother ▸ hd)
          obtain ⟨e, he⟩ := Option.ne_none_iff_exists'.mp hstill
          rw [choose_active he]
          exact hpend
    · next hfull =>
      exact h.enterWaiting (Nat.le_antisymm h.bound (Nat.le_of_not_lt hfull)) hwork
  · exact h

theorem hasWork_i_of_cons {s : State} {x : Summary} {l : List Summary} (h : s.out.holding = l ++ [x]) :
    hasWork s .i = true := by
  simp [hasWork, h]

/-- The queue of channel I with a summary offered: at 4, the oldest not being written has been dropped (R134). -/
def summaryQueued (x : Summary) (s : State) : State :=
  let t :=
    if s.out.holding.length < Config.holdingDepth then s
    else raise .summaryLost { s with out := { s.out with
      holding := s.out.holding.eraseIdx (if s.out.chanI.state = .active then 1 else 0)
      lost := satSucc s.out.lost } }
  { t with out := { t.out with holding := t.out.holding ++ [x] } }

theorem offerSummary_eq (x : Summary) (s : State) : offerSummary x s = handWork .i (summaryQueued x s) := rfl

theorem summaryQueued_work (x : Summary) (s : State) : hasWork (summaryQueued x s) .i = true := by
  unfold summaryQueued
  dsimp only
  split <;> exact hasWork_i_of_cons rfl

/-- Queueing a summary moves the queue, the lost count and the causes alone. -/
theorem summaryQueued_frame (x : Summary) (s : State) : ∃ hold lost st, summaryQueued x s =
    { s with out := { s.out with holding := hold, lost := lost }, status := st } := by
  unfold summaryQueued
  dsimp only
  split
  · exact ⟨_, s.out.lost, s.status, rfl⟩
  · exact ⟨_, _, _, rfl⟩

/-! ## Records that end -/

/-- A record of the ACTIVE channel ends without W or U moving: the engine is free (R142, R143). -/
theorem WriteOutInv.ended {s t : State} (h : WriteOutInv s) {c : Channel} (hc : (s.out.chan c).state = .active)
    {o : ChannelOutcome} (ho : t.out = { s.out.setChan c { state := .idle, outcome := o } with record := none })
    (hwork : ∀ d, hasWork s d = true → hasWork t d = true) : EngineFree t := by
  have hsame : (t.out.chan c).state = .idle := by
    rw [ho]
    cases c <;> rfl
  have hother : t.out.chan c.other = s.out.chan c.other := by
    rw [ho]
    cases c <;> rfl
  have hu : t.out.u = s.out.u := by
    rw [ho]
    cases c <;> rfl
  refine ⟨?_, ?_, ?_, ?_, ?_, ?_⟩
  · rw [ho]
    cases c <;> exact h.pointers
  · rw [hu]
    exact h.bound
  · rw [Channel.forall_iff c, hsame, hother]
    refine ⟨nofun, fun hactive => h.oneActive ?_⟩
    cases c
    · exact ⟨hc, hactive⟩
    · exact ⟨hactive, hc⟩
  · rw [ho]
  · rw [Channel.forall_iff c, hsame, hother, hu]
    exact ⟨nofun, h.waitingFull c.other⟩
  · rw [Channel.forall_iff c, hsame, hother]
    exact ⟨fun hno => absurd rfl hno, fun hbusy => hwork _ (h.busyHasWork c.other hbusy)⟩

theorem keepItem_work (s : State) (c : Channel) : hasWork s c = true → hasWork (keepItem s) c = true := by
  obtain ⟨sn, hframe⟩ := keepItem_frame s
  cases c with
  | i =>
    rw [hframe]
    exact id
  | p =>
    refine hasWork_p_of_held (fun u hu => ?_) ?_
    · rw [(keepItem_kept s).held u]
      exact hu
    · rw [hframe]
      exact id

theorem WriteOutInv.abandonRecord {s : State} (h : WriteOutInv s) {c : Channel} (hc : (s.out.chan c).state = .active)
    (o : ChannelOutcome) : EngineFree (abandonRecord c o s) :=
  h.ended hc rfl fun d hd => (hasWork_congr (s := keepItem s) (t := Machine.abandonRecord c o s)
    (by obtain ⟨sn, hframe⟩ := keepItem_frame s; rw [hframe]; cases c <;> rfl) rfl rfl d).trans (keepItem_work s d hd)

/-- A burst that fails ends the record, and the engine chooses (R142). -/
theorem WriteOutInv.failRecord {s : State} (h : WriteOutInv s) : WriteOutInv (failRecord s) := by
  unfold Machine.failRecord
  split
  · next c hc =>
    have hfree := h.abandonRecord (WriteOut.active_some hc) .terminatedMemory
    exact EngineFree.choose (s := raise .writeoutFault _)
      ⟨hfree.pointers, hfree.bound, hfree.inactive, hfree.noRecord, hfree.waitingFull, hfree.busyHasWork⟩
  · exact h

theorem WriteOutInv.cancelActive {s : State} (h : WriteOutInv s) {c : Channel} (hc : s.out.active = some c) :
    EngineFree (cancelActive s) := by
  unfold Machine.cancelActive
  rw [hc]
  refine WriteOutInv.abandonRecord (s := { s with link := s.link.dropWriteOut }) ?_ (WriteOut.active_some hc) _
  exact h.of_engine rfl fun _ hd => hd

theorem WriteOutInv.cancelAndChoose {s : State} (h : WriteOutInv s) : WriteOutInv (cancelAndChoose s) := by
  unfold Machine.cancelAndChoose
  split
  · next hactive =>
    obtain ⟨c, hc⟩ := Option.isSome_iff_exists.mp hactive
    exact (h.cancelActive hc).choose
  · exact h
/-- A completed record's item leaves the engine as it was, but for the queue of channel I (R139). -/
theorem releaseItem_out (it : Item) (s : State) :
    (releaseItem it s).out = { s.out with holding := (releaseItem it s).out.holding } := by
  cases it with
  | summary => rfl
  | statement u =>
    unfold releaseItem
    dsimp only
    split
    · split <;> rfl
    · rfl
  | trailer => rfl

theorem releaseItem_statement_holding (u : UnitId) (s : State) :
    (releaseItem (.statement u) s).out.holding = s.out.holding := by
  unfold releaseItem
  dsimp only
  split
  · split <;> rfl
  · rfl

/-- The item of one channel is no work of the other (R133). -/
theorem releaseItem_work_other {it : Item} {c : Channel} (h : it.ofChannel c) (s : State) :
    hasWork (releaseItem it s) c.other = hasWork s c.other := by
  cases it with
  | summary =>
    cases h
    rfl
  | statement u =>
    cases h
    show (!(releaseItem (.statement u) s).out.holding.isEmpty) = !s.out.holding.isEmpty
    rw [releaseItem_statement_holding]
  | trailer =>
    cases h
    rfl

/-- The channel of a record that is over takes its next state (R133, R139). -/
theorem EngineFreeBut.afterRecord {s : State} {c : Channel} (h : EngineFreeBut c s) :
    EngineFree (afterRecord c s) := by
  unfold Machine.afterRecord
  split
  · next hwork =>
    split
    · exact h.setChanState nofun nofun fun _ => hwork
    · next hfull =>
      have hfree := h.setChanState (st := .waitingExport) nofun
        (fun _ => Nat.le_antisymm h.bound (Nat.le_of_not_lt hfull)) fun _ => hwork
      exact ⟨hfree.pointers, hfree.bound, hfree.inactive, hfree.noRecord, hfree.waitingFull, hfree.busyHasWork⟩
  · exact h.setChanState nofun nofun fun hno => absurd rfl hno

/-- The engine as a completed record leaves it, before its item is released (R139). -/
def recordCounted (c : Channel) (s : State) : State :=
  { s with out := { s.out.setChan c { s.out.chan c with outcome := .complete } with
    w := s.out.w + 1, u := s.out.u + 1, seq := s.out.seq + 1, record := none } }

theorem completeRecord_eq {s : State} {r : Record} (c : Channel) (hr : s.out.record = some r) :
    completeRecord c s = choose (afterRecord c (releaseItem r.item (recordCounted c s))) := by
  unfold completeRecord
  rw [hr]
  rfl

/-- A record is counted and its item released: the slot it took is the one after the unexported ones (R139). -/
theorem WriteOutInv.released {s : State} (h : WriteOutInv s) {c : Channel} (hc : s.out.active = some c) {r : Record}
    (hof : r.item.ofChannel c) : EngineFreeBut c (releaseItem r.item (recordCounted c s)) := by
  have hactive := WriteOut.active_some hc
  have hroom := h.activeRoom c hactive
  have hother : (releaseItem r.item (recordCounted c s)).out.chan c.other = s.out.chan c.other := by
    rw [releaseItem_out]
    cases c <;> rfl
  refine ⟨?_, ?_, ?_, ?_, fun hw => ?_, fun hbusy => ?_⟩
  · rw [releaseItem_out]
    show s.out.w + 1 = _ + BitVec.ofNat 11 (s.out.u + 1)
    rw [h.pointers, BitVec.add_assoc, BitVec.ofNat_add]
    cases c <;> rfl
  · rw [releaseItem_out]
    exact hroom
  · rw [hother]
    intro hboth
    exact h.oneActive (by cases c; exacts [⟨hactive, hboth⟩, ⟨hboth, hactive⟩])
  · rw [releaseItem_out]
    rfl
  · rw [hother] at hw
    have hfull := h.waitingFull c.other hw
    omega
  · rw [hother] at hbusy
    rw [releaseItem_work_other hof]
    refine (hasWork_congr (s := s) (t := recordCounted c s) ?_ rfl rfl c.other).trans (h.busyHasWork c.other hbusy)
    cases c <;> rfl

/-- A record is complete, and the engine chooses (R139). -/
theorem WriteOutInv.completeRecord {s : State} (h : WriteOutInv s) {c : Channel} (hc : s.out.active = some c) :
    WriteOutInv (completeRecord c s) := by
  obtain ⟨r, hr, hof⟩ := h.recordOfActive c (WriteOut.active_some hc)
  rw [completeRecord_eq c hr]
  exact (h.released hc hof).afterRecord.choose

/-! ## Export (R137) -/

/-- The state of a channel once those waiting for an EXPORT resume (R137). -/
def Chan.resumed (x : Chan) : Chan := if x.state = .waitingExport then { x with state := .pending } else x

theorem Chan.resumed_ne_waiting (x : Chan) : x.resumed.state ≠ .waitingExport := by
  unfold Chan.resumed
  split
  · exact nofun
  · assumption

theorem Chan.resumed_ne_active {x : Chan} (h : x.state ≠ .active) : x.resumed.state ≠ .active := by
  unfold Chan.resumed
  split
  · exact nofun
  · exact h

theorem Chan.of_resumed_ne_idle {x : Chan} (h : x.resumed.state ≠ .idle) : x.state ≠ .idle := by
  unfold Chan.resumed at h
  split at h
  · next hp =>
    rw [hp]
    decide
  · exact h

theorem Chan.resumed_eq {x : Chan} (h : x.state ≠ .waitingExport) : x.resumed = x := if_neg h

theorem waitingToPending_out (c : Channel) (s : State) :
    (waitingToPending c s).out = s.out.setChan c (s.out.chan c).resumed := by
  unfold waitingToPending Chan.resumed
  split
  · rfl
  · cases c <;> rfl

/-- X advances and U falls by the records exported, and the channels that wait resume (R132, R137). -/
def exported (n : Nat) (s : State) : State :=
  { s with out := { s.out with x := s.out.x + BitVec.ofNat 11 n, u := s.out.u - n
                               chanI := s.out.chanI.resumed, chanP := s.out.chanP.resumed } }

theorem exportRecords_some {n : Nat} (hn : n ≠ 0) (s : State) : exportRecords n s = choose (exported n s) := by
  unfold exportRecords
  rw [if_neg hn]
  refine congrArg choose ?_
  obtain ⟨_, hi⟩ := waitingToPending_frame .i
    { s with out := { s.out with x := s.out.x + BitVec.ofNat 11 n, u := s.out.u - n } }
  obtain ⟨_, hp⟩ := waitingToPending_frame .p (waitingToPending .i
    { s with out := { s.out with x := s.out.x + BitVec.ofNat 11 n, u := s.out.u - n } })
  have hout := (congrArg State.out hp).symm.trans (waitingToPending_out .p _)
  rw [waitingToPending_out] at hout
  rw [hp, hi]
  rw [hi] at hout
  exact congrArg (fun o => { s with out := o }) hout

theorem exported_pointers {n : Nat} {s : State} (h : s.out.w = s.out.x + BitVec.ofNat 11 s.out.u) (hn : n ≤ s.out.u) :
    (exported n s).out.w = (exported n s).out.x + BitVec.ofNat 11 (exported n s).out.u := by
  show s.out.w = s.out.x + BitVec.ofNat 11 n + BitVec.ofNat 11 (s.out.u - n)
  rw [BitVec.add_assoc, ← BitVec.ofNat_add, Nat.add_sub_cancel' hn]
  exact h

/-- An EXPORT of no record leaves everything as it was. -/
theorem exportRecords_none (s : State) : (exportRecords 0 s).out = s.out := by
  show { s.out with x := s.out.x + 0#11, u := s.out.u - 0 } = s.out
  rw [BitVec.add_zero, Nat.sub_zero]

theorem exported_chan (n : Nat) (s : State) (c : Channel) : (exported n s).out.chan c = (s.out.chan c).resumed := by
  cases c <;> rfl

/-- While a channel is ACTIVE none waits, and an EXPORT moves X and U alone. -/
theorem exported_active {n : Nat} {s : State} (h : WriteOutInv s) {c : Channel} (hc : s.out.active = some c) :
    (exported n s).out = { s.out with x := s.out.x + BitVec.ofNat 11 n, u := s.out.u - n } := by
  have hroom := h.activeRoom c (WriteOut.active_some hc)
  have hno : ∀ d, (s.out.chan d).state ≠ .waitingExport := fun d hd => by
    have hfull := h.waitingFull d hd
    omega
  have hi := Chan.resumed_eq (hno .i)
  have hp := Chan.resumed_eq (hno .p)
  unfold exported
  rw [show s.out.chanI.resumed = s.out.chanI from hi, show s.out.chanP.resumed = s.out.chanP from hp]

theorem WriteOutInv.exportRecords {s : State} (h : WriteOutInv s) {n : Nat} (hn : n ≤ s.out.u) :
    WriteOutInv (exportRecords n s) := by
  rcases Nat.eq_zero_or_pos n with rfl | hpos
  · refine h.of_engine (exportRecords_none s) fun c hc => ?_
    exact (hasWork_congr (congrArg WriteOut.holding (exportRecords_none s)) rfl rfl c).trans hc
  · rw [exportRecords_some (Nat.ne_of_gt hpos)]
    have hbound := h.bound
    cases hc : s.out.active with
    | none =>
      have hfree := h.free hc
      refine EngineFree.choose ⟨exported_pointers h.pointers hn, ?_, fun c => ?_, hfree.noRecord, fun c hw => ?_,
        fun c hbusy => ?_⟩
      · show s.out.u - n ≤ 2048
        omega
      · rw [exported_chan]
        exact Chan.resumed_ne_active (hfree.inactive c)
      · rw [exported_chan] at hw
        exact absurd hw (Chan.resumed_ne_waiting _)
      · rw [exported_chan] at hbusy
        exact h.busyHasWork c (Chan.of_resumed_ne_idle hbusy)
    | some c =>
      have hout := exported_active (n := n) h hc
      have hactive : (exported n s).out.active = some c := by
        rw [hout]
        exact hc
      rw [choose_active hactive]
      have hroom := h.activeRoom c (WriteOut.active_some hc)
      have hpointers := exported_pointers h.pointers hn
      have hwork : ∀ d, hasWork (exported n s) d = hasWork s d := fun d => hasWork_congr rfl rfl rfl d
      have hchan : ∀ d, (exported n s).out.chan d = s.out.chan d := fun d => by
        rw [hout]
        cases d <;> rfl
      refine ⟨hpointers, ?_, ?_, fun d _ => ?_, fun d hd => ?_, fun d hd => ?_, fun d hd => ?_, fun d hd => ?_,
        fun hno => ?_, fun d hd => ?_⟩
      · show s.out.u - n ≤ 2048
        omega
      · rw [hout]
        exact h.oneActive
      · show s.out.u - n < 2048
        omega
      · have hfull := h.waitingFull d (hchan d ▸ hd)
        omega
      · rw [hchan]
        exact h.pendingBehind d (hchan d ▸ hd)
      · rw [hwork]
        exact h.busyHasWork d (hchan d ▸ hd)
      · exact h.recordOfActive d (hchan d ▸ hd)
      · cases hactive.symm.trans hno
      · exact h.lastIsActive d (hchan d ▸ hd)

end Sys2Proof.Machine
end

section
/-! SUPPORT. The write-out engine and the memory link in order together, at every move of the ledger (O6). The link asks
of the engine only the record being written; the engine asks nothing of the link. -/

namespace Sys2Proof.Machine

/-- The engine and the link are in order. -/
structure EngineInv (s : State) : Prop where
  out : WriteOutInv s
  link : LinkInv s

theorem EngineInv.of_engine {s t : State} (h : EngineInv s) (hl : t.link = s.link)
    (ho : t.out = { s.out with holding := t.out.holding, lost := t.out.lost })
    (hwork : ∀ c, hasWork s c = true → hasWork t c = true) : EngineInv t :=
  ⟨h.out.of_engine ho hwork, h.link.of_link hl (by rw [ho])⟩

/-- The blocks of the engine, of the link and of the work stand. -/
theorem EngineInv.of_blocks {s t : State} (h : EngineInv s) (hl : t.link = s.link) (ho : t.out = s.out)
    (hs : t.snapshots = s.snapshots) (hp : t.period = s.period) : EngineInv t := by
  refine h.of_engine hl (by rw [ho]) fun c hc => ?_
  rw [hasWork_congr (congrArg WriteOut.holding ho) hs (congrArg PeriodState.trailer hp) c]
  exact hc

theorem EngineInv.of_ledger {s t : State} (h : EngineInv s) (ht : t.ledger = s.ledger) : EngineInv t := by
  obtain ⟨hl, ho, _, hs, hp, _⟩ := State.ledger_eq_iff.mp ht
  exact h.of_blocks hl ho hs hp

/-- The engine has gone on, and the record is as it was or there was none. -/
theorem EngineInv.of_out {s t : State} (h : EngineInv s) (ht : WriteOutInv t) (hl : t.link = s.link)
    (hr : t.out.record = s.out.record ∨ s.out.record = none) : EngineInv t :=
  ⟨ht, hr.elim (h.link.of_link hl) (h.link.of_idle hl)⟩

/-! ## Events of the link alone -/

theorem EngineInv.of_link {s t : State} (h : EngineInv s) (hl : LinkInv t) (hframe : ∃ l a st, t = { s with
    link := l, answer := a, status := st }) : EngineInv t := by
  obtain ⟨_, _, _, hframe⟩ := hframe
  refine ⟨h.out.of_engine ?_ fun _ hc => ?_, hl⟩
  · rw [hframe]
  · rw [hframe]
    exact hc

theorem EngineInv.advance {s : State} (h : EngineInv s) (st : RecordStep) : WriteOutInv (advanceRecord st s) where
  pointers := h.out.pointers
  bound := h.out.bound
  oneActive := h.out.oneActive
  activeRoom c hc := h.out.activeRoom c (by cases c <;> exact hc)
  waitingFull c hc := h.out.waitingFull c (by cases c <;> exact hc)
  pendingBehind c hc := by
    have hactive := h.out.pendingBehind c (by cases c <;> exact hc)
    cases c <;> exact hactive
  busyHasWork c hc := by
    have hwork := h.out.busyHasWork c (by cases c <;> exact hc)
    cases c <;> exact hwork
  recordOfActive c hc := by
    obtain ⟨r, hr, hof⟩ := h.out.recordOfActive c (by cases c <;> exact hc)
    exact ⟨_, congrArg (Option.map _) hr, hof⟩
  noRecordFree hno := congrArg (Option.map _) (h.out.noRecordFree hno)
  lastIsActive c hc := h.out.lastIsActive c (by cases c <;> exact hc)

/-- The arbiter leaves the engine as it is. -/
theorem WriteOutInv.granted {s : State} (h : WriteOutInv s) : WriteOutInv (grant s) := by
  obtain ⟨_, hframe⟩ := grant_frame s
  rw [hframe]
  exact h.of_engine rfl fun _ hc => hc

theorem WriteOutInv.of_link {s : State} (h : WriteOutInv s) (l : Link) : WriteOutInv { s with link := l } :=
  h.of_engine rfl fun _ hc => hc

/-! ## Work handed to a channel -/

theorem choose_record (s : State) : (choose s).out.record = s.out.record ∨ s.out.active = none := by
  cases hc : s.out.active with
  | none => exact .inr rfl
  | some c => exact .inl (by rw [choose_active hc])

/-- Handing work to a channel forms a record only while the engine is free. -/
theorem WriteOutInv.handWork_record {s : State} (h : WriteOutInv s) (c : Channel) :
    (Machine.handWork c s).out.record = s.out.record ∨ s.out.record = none := by
  unfold Machine.handWork
  split
  · next hidle =>
    split
    · rcases choose_record (Machine.setChanState c .pending s) with hsame | hfree
      · rw [hsame, setChanState_record]
        exact .inl rfl
      · refine .inr (h.noRecordFree (WriteOut.active_none_iff.mpr ?_))
        have hother := WriteOut.active_none_iff.mp hfree c.other
        rw [(setChanState_chan c .pending s).2] at hother
        exact (Channel.forall_iff c).mpr ⟨by rw [hidle]; exact nofun, hother⟩
    · exact .inl (setChanState_record c .waitingExport s)
  · exact .inl rfl

theorem EngineInv.handWork {s : State} (h : EngineInv s) {c : Channel} (hwork : hasWork s c = true) :
    EngineInv (handWork c s) := by
  obtain ⟨_, _, hframe⟩ := handWork_frame c s
  exact h.of_out (h.out.handWork hwork) (by rw [hframe]) (h.out.handWork_record c)

theorem EngineInv.offerSummary {s : State} (h : EngineInv s) (x : Summary) : EngineInv (offerSummary x s) := by
  rw [offerSummary_eq]
  refine EngineInv.handWork ?_ (summaryQueued_work x s)
  have hi := summaryQueued_work x s
  obtain ⟨_, _, _, hframe⟩ := summaryQueued_frame x s
  rw [hframe] at hi ⊢
  refine h.of_engine rfl rfl fun c hc => ?_
  cases c
  · exact hi
  · exact hc

theorem EngineInv.exportRecords {s : State} (h : EngineInv s) {n : Nat} (hn : n ≤ s.out.u) :
    EngineInv (exportRecords n s) := by
  obtain ⟨_, _, hframe⟩ := exportRecords_frame n s
  refine h.of_out (h.out.exportRecords hn) (by rw [hframe]) ?_
  rcases Nat.eq_zero_or_pos n with rfl | hpos
  · exact .inl (congrArg WriteOut.record (exportRecords_none s))
  · rw [exportRecords_some (Nat.ne_of_gt hpos)]
    cases hc : s.out.active with
    | none => exact .inr (h.out.noRecordFree hc)
    | some c =>
      have hactive : (exported n s).out.active = some c := by
        rw [exported_active h.out hc]
        exact hc
      rw [choose_active hactive]
      exact .inl rfl

/-! ## The ACTIVE channel cancelled (R143, R164) -/

/-- The port once the engine's burst there is disregarded (R164). -/
def disregardBurst : Option Access → Option Access
  | some (.firstBurst w) => some (.disregarded (.write w))
  | some (.secondBurst w) => some (.disregarded (.write w))
  | p => p

theorem Link.dropWriteOut_eq (l : Link) :
    l.dropWriteOut = { l with reqWriteOut := false, port := disregardBurst l.port } := rfl

theorem disregardBurst_noBurst (p : Option Access) (w : WriteTxn) :
    disregardBurst p ≠ some (.firstBurst w) ∧ disregardBurst p ≠ some (.secondBurst w) := by
  unfold disregardBurst
  split
  · exact ⟨nofun, nofun⟩
  · exact ⟨nofun, nofun⟩
  · next hfirst hsecond => exact ⟨hfirst w, hsecond w⟩

theorem disregardBurst_drain {p : Option Access} {w : WriteTxn} :
    disregardBurst p = some (.drain w) ↔ p = some (.drain w) := by
  unfold disregardBurst
  split
  · exact ⟨nofun, nofun⟩
  · exact ⟨nofun, nofun⟩
  · exact .rfl

theorem disregardBurst_read {p : Option Access} {r : ReadTxn} (h : disregardBurst p = some (.read r)) :
    p = some (.read r) := by
  unfold disregardBurst at h
  split at h
  · cases h
  · cases h
  · exact h

theorem disregardBurst_none {p : Option Access} (h : disregardBurst p = none) : p = none := by
  unfold disregardBurst at h
  split at h
  · cases h
  · cases h
  · exact h

/-- With the engine's request withdrawn and its burst disregarded, the record may be any. -/
theorem LinkInv.dropWriteOut {s t : State} (h : LinkInv s) (hl : t.link = s.link.dropWriteOut) : LinkInv t := by
  obtain ⟨⟨horder, hdrain, hread, hburst⟩, hgranted⟩ := linkInv_iff.mp h
  rw [Link.dropWriteOut_eq] at hl
  rw [linkInv_iff]
  refine ⟨⟨?_, ?_, ?_, ?_⟩, ?_⟩
  · rw [hl]
    exact horder
  · rw [hl]
    exact hdrain.of_port (fun _ => disregardBurst_drain) rfl rfl
  · rw [hl]
    exact hread.of_port (fun _ => disregardBurst_read) rfl rfl
  · rw [hl]
    exact .of_quiet (disregardBurst_noBurst s.link.port) rfl
  · rw [hl]
    intro hnone r
    have hfree := hgranted (disregardBurst_none hnone)
    cases r with
    | drain => exact hfree .drain
    | read => exact hfree .read
    | writeOut => rfl

theorem EngineInv.cancelAndChoose {s : State} (h : EngineInv s) : EngineInv (cancelAndChoose s) := by
  refine ⟨h.out.cancelAndChoose, ?_⟩
  unfold Machine.cancelAndChoose
  split
  · next hactive =>
    obtain ⟨c, hc⟩ := Option.isSome_iff_exists.mp hactive
    obtain ⟨_, hcancel⟩ := cancelActive_active hc
    obtain ⟨_, _, hchoose⟩ := choose_frame (cancelActive s)
    refine h.link.dropWriteOut ?_
    rw [hchoose, hcancel]
  · exact h.link

theorem EngineInv.dropRead {s : State} (h : EngineInv s) : EngineInv (dropRead s) := by
  refine ⟨?_, h.link.dropRead⟩
  unfold Machine.dropRead
  split
  · exact h.out
  · exact h.out.of_engine rfl fun _ hc => hc

theorem EngineInv.resetBus {s : State} (h : EngineInv s) : EngineInv (resetBus s) :=
  h.dropRead.cancelAndChoose.of_ledger rfl

/-! ## The stages of a close -/

/-- Stage 6 up to its causes: the decisions, the FINAL snapshots and the periods they close (R62, R63). -/
def occupancyDecided (c : Close) (s : State) : State :=
  { s with
    occ := decideAll c s
    snapshots := Vector.ofFn fun u : UnitId =>
      if (Vector.ofFn (closesNow c s))[u] then some (statementOf s u c.boundary true false) else s.snapshots[u]
    accounts := clearPeriods (fun u => (Vector.ofFn (closesNow c s))[u]) s.accounts
    close := some { c with next := .period, finalTaken := Vector.ofFn (closesNow c s) } }

/-- Stage 6 up to channel P's new work: the causes raised (R62, R109). -/
def occupancyRaised (c : Close) (s : State) : State :=
  raiseIf ((List.finRange 256).any fun u : UnitId => u != 0 && awaitsFinals c.occ[u] s.occ[u]) .unitAwaiting
    (raiseIf ((List.finRange 256).any fun u => closesNow c s u || opensNow c s u) .unitChanged (occupancyDecided c s))

theorem stageOccupancy_eq (c : Close) (s : State) : stageOccupancy c s =
    if (Vector.ofFn (closesNow c s)).any id then handWork .p (occupancyRaised c s) else occupancyRaised c s := rfl

theorem anyCloses_iff {c : Close} {s : State} :
    (Vector.ofFn (closesNow c s)).any id = true ↔ ∃ u, closesNow c s u = true := by
  rw [Vector.any_eq_true]
  simp only [Vector.getElem_ofFn, id]
  exact ⟨fun ⟨i, hi, h⟩ => ⟨⟨i, hi⟩, h⟩, fun ⟨u, h⟩ => ⟨u.val, u.isLt, h⟩⟩

theorem occupancyDecided_snapshot (c : Close) (s : State) (u : UnitId) : (occupancyDecided c s).snapshots[u] =
    if closesNow c s u then some (statementOf s u c.boundary true false) else s.snapshots[u] := by
  unfold occupancyDecided
  dsimp only
  rw [getElem_ofFn_fin, getElem_ofFn_fin]

theorem occupancyDecided_blocks (c : Close) (s : State) : (occupancyDecided c s).link = s.link ∧
    (occupancyDecided c s).out = s.out ∧ (occupancyDecided c s).period = s.period := by
  unfold occupancyDecided
  exact ⟨rfl, rfl, rfl⟩

theorem occupancyRaised_ledger (c : Close) (s : State) :
    (occupancyRaised c s).ledger = (occupancyDecided c s).ledger := by
  unfold occupancyRaised
  rw [raiseIf_ledger, raiseIf_ledger]

/-- Stage 6 takes snapshots and loses none (R63). -/
theorem EngineInv.occupancyRaised {s : State} (h : EngineInv s) (c : Close) : EngineInv (occupancyRaised c s) := by
  obtain ⟨hl, ho, hp⟩ := occupancyDecided_blocks c s
  refine EngineInv.of_ledger (s := occupancyDecided c s) ?_ (occupancyRaised_ledger c s)
  refine h.of_engine hl (by rw [ho]) fun d hd => ?_
  cases d with
  | i =>
    unfold hasWork
    rw [ho]
    exact hd
  | p =>
    refine hasWork_p_of_held (fun u hu => ?_) (fun htrailer => by rw [hp]; exact htrailer) hd
    rw [occupancyDecided_snapshot]
    split
    · rfl
    · exact hu

theorem occupancyRaised_work {c : Close} {s : State} {u : UnitId} (h : closesNow c s u = true) :
    hasWork (occupancyRaised c s) .p = true := by
  obtain ⟨_, _, _, hsnap, _, _⟩ := State.ledger_eq_iff.mp (occupancyRaised_ledger c s)
  refine hasWork_p_iff.mpr (.inl ⟨u, ?_⟩)
  rw [hsnap, occupancyDecided_snapshot, if_pos h]
  rfl

/-- Where stage 6 has taken a snapshot channel P has its work (R135). -/
theorem EngineInv.stageOccupancy {s : State} (h : EngineInv s) (c : Close) : EngineInv (stageOccupancy c s) := by
  rw [stageOccupancy_eq]
  split
  · next hany =>
    obtain ⟨u, hu⟩ := anyCloses_iff.mp hany
    exact (h.occupancyRaised c).handWork (occupancyRaised_work hu)
  · exact h.occupancyRaised c

/-- Stage 7 up to channel P's new work: the period set taken, its accounts cleared, the trailer figures (R64 to
R66). -/
def periodTaken (c : Close) (s : State) : State :=
  { s with
    snapshots := periodSnapshots c s
    accounts := clearPeriods (fun u => c.inPeriodSet u && !c.finalTaken[u]) s.accounts
    period := { number := s.period.number + 1, pending := false,
                trailer := some (trailerOf s.period.number (periodSet c (periodSnapshots c s))) }
    close := some { c with next := .summary } }

theorem stagePeriod_due {c : Close} (h : c.periodDue = true) (s : State) :
    stagePeriod c s = handWork .p (periodTaken c s) := if_pos h

theorem periodTaken_blocks (c : Close) (s : State) :
    (periodTaken c s).link = s.link ∧ (periodTaken c s).out = s.out := by
  unfold periodTaken
  exact ⟨rfl, rfl⟩

/-- Stage 7 leaves trailer figures, work of channel P (R66). -/
theorem periodTaken_work (c : Close) (s : State) : hasWork (periodTaken c s) .p = true :=
  hasWork_p_iff.mpr (.inr rfl)

theorem EngineInv.stagePeriod {s : State} (h : EngineInv s) (c : Close) : EngineInv (stagePeriod c s) := by
  by_cases hdue : c.periodDue = true
  · rw [stagePeriod_due hdue]
    obtain ⟨hl, ho⟩ := periodTaken_blocks c s
    refine EngineInv.handWork (h.of_engine hl (by rw [ho]) fun d hd => ?_) (periodTaken_work c s)
    cases d with
    | i =>
      unfold hasWork
      rw [ho]
      exact hd
    | p => exact periodTaken_work c s
  · rw [stagePeriod_noPeriod (by simpa using hdue)]
    exact h.of_blocks rfl rfl rfl rfl

theorem EngineInv.stageEffect {s : State} (h : EngineInv s) (st : Stage) (c : Close) : EngineInv (stageEffect st c s) := by
  cases st with
  | direct => apply h.of_blocks <;> simp only [Machine.stageEffect, stageDirect]
  | zones => apply h.of_blocks <;> simp only [Machine.stageEffect, stageZones]
  | residual => apply h.of_blocks <;> simp only [Machine.stageEffect, stageResidual]
  | price => apply h.of_blocks <;> simp only [Machine.stageEffect, stagePrice]
  | occupancy => exact h.stageOccupancy c
  | period => exact h.stagePeriod c
  | summary =>
    refine EngineInv.offerSummary (s := { s with results := ChangeResults.initial, close := _ }) ?_ _
    exact h.of_blocks rfl rfl rfl rfl
  | changes =>
    obtain ⟨_, _, _, _, _, _, hframe⟩ := stageChanges_frame c s
    rw [show Machine.stageEffect .changes c s = stageChanges c s from rfl, hframe]
    exact h.of_blocks rfl rfl rfl rfl
  | finish => exact h.of_blocks rfl rfl rfl rfl

theorem EngineInv.runStage {s : State} (h : EngineInv s) (st : Stage) : EngineInv (runStage st s) := by
  unfold Machine.runStage
  split
  · split
    · exact h.stageEffect st _
    · exact h
  · exact h

/-- A boundary ends the close in progress and leaves what it has handed to the engine (R88). -/
theorem EngineInv.boundary {s : State} (h : EngineInv s) (b : Time) : EngineInv (beginClose b (finishClose s)) := by
  have hdone : EngineInv (finishClose s) := finishClose_keeps (fun st _ hs => hs.runStage st) h
  unfold beginClose
  obtain ⟨_, hraise⟩ := raiseIf_frame ((finishClose s).live.any (·.goesStale)) .meterStale _
  rw [hraise]
  exact hdone.of_blocks rfl rfl rfl rfl

/-! ## Every move of the ledger -/

theorem UpstreamFree.noRead {s : State} (h : UpstreamFree s) : s.link.forwarded = none := by
  have hfree : s.link.forwarded.isNone = true := (Bool.and_eq_true_iff.mp h).1
  exact Option.isNone_iff_eq_none.mp hfree

theorem State.recordReady_some {s : State} (h : s.recordReady = true) :
    ∃ r, s.out.record = some r ∧ r.step = .waiting := by
  unfold State.recordReady at h
  split at h
  · next r hr =>
    simp only [Bool.and_eq_true, beq_iff_eq] at h
    obtain ⟨⟨hs, _⟩, _⟩ := h
    exact ⟨r, hr, hs⟩
  · cases h

theorem WriteOutInv.freed {s : State} (h : WriteOutInv s) : WriteOutInv (grant (freePort s)) :=
  (h.of_link _).granted

theorem LedgerMove.engineInv {u v : State} (h : LedgerMove u v) (hinv : EngineInv u) : EngineInv v := by
  cases h with
  | stays => exact hinv
  | postsWrite w =>
    obtain ⟨l, a, hframe⟩ := postWrite_frame w u
    exact .of_link hinv (hinv.link.postWrite w) ⟨l, a, u.status, hframe⟩
  | forwardsRead r hfree =>
    refine .of_link hinv (hinv.link.forwardRead r hfree.noRead) ?_
    unfold forwardRead
    split
    · exact ⟨u.link, _, u.status, rfl⟩
    · obtain ⟨l, hframe⟩ := grant_frame (requestRead { u with link := { u.link with forwarded := some r }, answer := none })
      exact ⟨l, none, u.status, hframe⟩
  | endsDrain w hport =>
    obtain ⟨l, hframe⟩ := endDrain_frame u
    exact .of_link hinv (hinv.link.endDrain hport) ⟨l, u.answer, u.status, hframe⟩
  | discardsDrain w hport =>
    obtain ⟨l, st, hframe⟩ := discardDrain_frame u
    exact .of_link hinv (hinv.link.discardDrain hport) ⟨l, u.answer, st, hframe⟩
  | endsRead q r hport =>
    obtain ⟨l, a, hframe⟩ := endRead_frame r u
    exact .of_link hinv (hinv.link.endRead hport r) ⟨l, a, u.status, hframe⟩
  | failsBurst w hport =>
    obtain ⟨_, _, _, hframe⟩ := failRecord_frame u
    exact ⟨hinv.out.failRecord.freed, hinv.link.endBurst hport (by rw [hframe])⟩
  | endsDisregarded x hport => exact ⟨hinv.out.freed, hinv.link.endDisregarded hport⟩
  | ages n => exact ⟨hinv.out.of_link _, hinv.link.age n⟩
  | startsRecord hready =>
    obtain ⟨r, hr, hs⟩ := State.recordReady_some hready
    exact ⟨((hinv.advance .first).of_link _).granted, hinv.link.requestFirst hr hs⟩
  | acceptsFirst w hport =>
    exact ⟨((hinv.advance .second).of_link _).granted, hinv.link.requestSecond hport⟩
  | completesRecord w c hport hc =>
    obtain ⟨_, _, _, _, _, hframe⟩ := completeRecord_frame c u
    exact ⟨(hinv.out.completeRecord hc).freed, hinv.link.endBurst (.inr hport) (by rw [hframe])⟩
  | exportsRecords n hn => exact hinv.exportRecords hn
  | resendsPeriod hwork => exact hinv.handWork hwork
  | asksPeriod => exact hinv.of_engine rfl rfl fun d hd => (by cases d <;> exact hd)
  | resetsBus => exact hinv.resetBus
  | runsStage st => exact hinv.runStage st
  | reachesBoundary b _ => exact hinv.boundary b

theorem Moves.engineInv {s t : State} (h : Moves s t) (hinv : EngineInv s) : EngineInv t := by
  obtain ⟨_, _, hu, _, hmove, ht⟩ := h
  exact (hmove.engineInv (hinv.of_ledger hu)).of_ledger ht

/-! ## CLEAR and the power-on reset -/

/-- With both channels IDLE and no record being written the engine is in order. -/
theorem WriteOutInv.of_idle {s : State} (hpointers : s.out.w = s.out.x + BitVec.ofNat 11 s.out.u)
    (hbound : s.out.u ≤ 2048) (hidle : ∀ c, (s.out.chan c).state = .idle) (hrec : s.out.record = none) :
    WriteOutInv s :=
  EngineFree.rest ⟨hpointers, hbound, fun c => by rw [hidle]; exact nofun, hrec,
    fun c hc => absurd (hidle c) (by rw [hc]; exact nofun), fun c hc => absurd (hidle c) hc⟩ fun c => by rw [hidle]; exact nofun

theorem EngineInv.clearEffect {s : State} (h : EngineInv s) : EngineInv (clearEffect s) := by
  have hout : (Machine.clearEffect s).out = { s.out with
      holding := [], record := none, chanI := s.out.clearedChan .i, chanP := s.out.clearedChan .p } :=
    cancelActive_cleared h.out.noRecordFree
  refine ⟨WriteOutInv.of_idle ?_ ?_ (fun c => ?_) ?_, ?_⟩
  · rw [hout]
    exact h.out.pointers
  · rw [hout]
    exact h.out.bound
  · rw [hout]
    cases c <;> rfl
  · rw [hout]
  · have hlink : (Machine.clearEffect s).link = (cancelActive s).link := rfl
    cases hc : s.out.active with
    | none =>
      rw [cancelActive_idle hc] at hlink
      exact h.link.of_idle hlink (h.out.noRecordFree hc)
    | some c =>
      obtain ⟨_, hcancel⟩ := cancelActive_active hc
      refine h.link.dropWriteOut ?_
      rw [hlink, hcancel]

theorem engineInv_powerOn (pins : Pins) : EngineInv (State.powerOn pins) :=
  ⟨.of_idle rfl (Nat.zero_le _) (fun c => by cases c <;> rfl) rfl, linkInv_reset.of_link rfl rfl⟩

/-- Settles O6: every move of the ledger keeps the engine and the link in order, and so do CLEAR, which cancels the
ACTIVE channel, and the power-on reset. -/
theorem stepKeepsWriteOutAndLink : Obligations.StepKeepsWriteOutAndLink := by
  intro s t hout hlink hstep
  have hinv : EngineInv s := ⟨hout, hlink⟩
  suffices ht : EngineInv t from ⟨ht.out, ht.link⟩
  cases step_reaches hstep with
  | moves h => exact h.engineInv hinv
  | clears u hu hclose hcleared ht => exact ((hinv.of_ledger hu).clearEffect).of_ledger ht
  | resets pins hcleared ht => exact (engineInv_powerOn pins).of_ledger ht

end Sys2Proof.Machine
end

section
/-! SUPPORT. The 16 words of the statement records (O49; R141, R184): each layout as the obligations write it. -/

namespace Sys2Proof.Machine

/-- A summary figure lies beyond its 16-bit field. -/
theorem beyondKWh_eq (v : Int) :
    beyondField 16 (kWh v) = decide (v / 1000 < -32768 ∨ 32767 < v / 1000) := beyondField_iff 16 (v / 1000)

/-- A statement figure lies beyond its 32-bit field. -/
theorem beyondWord_eq (v : Int) : beyondField 32 v = decide (v < -2147483648 ∨ 2147483647 < v) := beyondField_iff 32 v

theorem SummaryFigures.words_eq (f : SummaryFigures) : f.words =
    [pair16 f.plant f.unitMetered, pair16 f.zoneMetered f.distributed, pair16 f.carryAfter f.estimated,
      pair16 f.corrections f.writtenOff] := by
  simp only [SummaryFigures.words, figurePair_eq]

theorem SummaryFigures.saturated_eq (x : Both SummaryFigures) :
    ((x.heat.list ++ x.cool.list).any fun v => beyondField 16 (kWh v)) =
      ([x.heat, x.cool].flatMap fun f => [f.plant, f.unitMetered, f.zoneMetered, f.distributed, f.carryAfter,
        f.estimated, f.corrections, f.writtenOff]).any fun v => decide (v / 1000 < -32768 ∨ 32767 < v / 1000) := by
  simp only [beyondKWh_eq]
  rfl

theorem PeriodFigures.saturated_eq (x : Both PeriodFigures) :
    (x.heat.list ++ x.cool.list).any (beyondField 32) =
      ([x.heat, x.cool].flatMap fun f => [f.direct, f.zone, f.residual, f.estimated, f.cost]).any fun v =>
        decide (v < -2147483648 ∨ 2147483647 < v) := by
  rw [show beyondField 32 = fun v => decide (v < -2147483648 ∨ 2147483647 < v) from funext beyondWord_eq]
  rfl

/-- An INTERVAL_SUMMARY, word by word. -/
theorem summaryWords_eq (x : Summary) (seq : BitVec 32) : summaryWords x seq =
    [wordOf [(0, 2, 1), (2, 1, x.interval.partialFlag.toNat), (3, 1, x.interval.degraded.toNat),
      (4, 1, x.changesApplied.toNat),
      (5, 1, (([x.figures.heat, x.figures.cool].flatMap fun f => [f.plant, f.unitMetered, f.zoneMetered,
        f.distributed, f.carryAfter, f.estimated, f.corrections, f.writtenOff]).any fun v =>
          decide (v / 1000 < -32768 ∨ 32767 < v / 1000)).toNat),
      (6, 6, x.rejectedChanges), (16, 16, x.length.toNat)],
    seq, x.seq, x.interval.nominal, x.interval.actual,
    wordOf [(0, 16, x.tallies.taken.toNat), (16, 16, x.tallies.rejected.toNat)],
    wordOf [(0, 16, x.tallies.skewed.toNat), (16, 16, x.lost.toNat)],
    wordOf [(0, 16, x.estimates), (16, 16, x.stale)]] ++
    [x.figures.heat, x.figures.cool].flatMap fun f => [pair16 f.plant f.unitMetered,
      pair16 f.zoneMetered f.distributed, pair16 f.carryAfter f.estimated, pair16 f.corrections f.writtenOff] := by
  unfold summaryWords
  dsimp only
  rw [packWord_eq rfl, packWord_eq rfl, packWord_eq rfl, packWord_eq rfl, SummaryFigures.saturated_eq,
    SummaryFigures.words_eq, SummaryFigures.words_eq, flag_eq_toNat, flag_eq_toNat, flag_eq_toNat, flag_eq_toNat]
  rfl

/-- A UNIT_STATEMENT, word by word. -/
theorem statementWords_eq (u : UnitId) (x : Statement) (seq : BitVec 32) : statementWords u x seq =
    [wordOf [(0, 2, 2), (2, 1, x.final.toNat), (3, 1, x.mark.toNat),
      (4, 1, (([x.figures.heat, x.figures.cool].flatMap fun f =>
        [f.direct, f.zone, f.residual, f.estimated, f.cost]).any fun v =>
          decide (v < -2147483648 ∨ 2147483647 < v)).toNat),
      (5, 2, x.tariff.val), (8, 8, u.val), (16, 16, x.tenancy.toNat)],
    seq, wordOf [(0, 16, x.period.toNat)], x.openedAt, x.closing] ++
    ([x.figures.heat, x.figures.cool].flatMap fun f => [nearest32 f.direct, nearest32 f.zone,
      nearest32 f.residual, nearest32 f.estimated, nearest32 f.cost]) ++ [0] := by
  unfold statementWords
  dsimp only
  rw [packWord_eq rfl, packWord_eq rfl, PeriodFigures.saturated_eq, flag_eq_toNat, flag_eq_toNat, flag_eq_toNat]
  simp only [clampField32_eq]
  rfl

/-- A PERIOD_TRAILER, word by word. -/
theorem trailerWords_eq (x : Trailer) (seq : BitVec 32) : trailerWords x seq =
    [wordOf [(0, 2, 3)], seq, wordOf [(0, 16, x.period.toNat), (16, 9, x.count)]] ++
      lowHigh x.cost.heat ++ lowHigh x.cost.cool ++ lowHigh x.energy.heat ++ lowHigh x.energy.cool ++
      [0, 0, 0, 0, 0] := by
  unfold trailerWords
  rw [packWord_eq rfl, packWord_eq rfl, words64_eq, words64_eq, words64_eq, words64_eq]

/-- Settles O49: each kind of record by its layout, and a statement written again by the words kept for it. -/
theorem recordsCarryTheirLayouts : Obligations.RecordsCarryTheirLayouts := by
  intro s
  refine ⟨fun x rest hx => ?_, fun u x words hx hf => recordWords_again hx hf, fun u x hx hf => ?_, fun x hx => ?_⟩
  · rw [← summaryWords_eq]
    simp only [recordWords, hx]
  · rw [recordWords_first hx hf]
    exact statementWords_eq u x s.out.seq
  · rw [← trailerWords_eq]
    simp only [recordWords, hx]

end Sys2Proof.Machine
end

section
/-! SUPPORT. The statement ring (O38, O48, O50; R130, R131, R132, R137, R138): who may write a slot, and the slots an
EXPORT releases. -/

namespace Sys2Proof.Machine

/-! ## Slot W (R130, R138) -/

/-- While there is room in the ring slot W is not among the unexported slots. -/
theorem WriteOutInv.w_exported {s : State} (h : WriteOutInv s) (hroom : s.out.u < 2048) :
    ¬ Unexported s.out s.out.w := by
  rintro ⟨k, hk, hw⟩
  have hsame : s.out.x + BitVec.ofNat 11 s.out.u = s.out.x + BitVec.ofNat 11 k := h.pointers.symm.trans hw
  have hnum : BitVec.ofNat 11 s.out.u = BitVec.ofNat 11 k := (BitVec.add_right_inj s.out.x).mp hsame
  have htoNat := congrArg BitVec.toNat hnum
  rw [BitVec.toNat_ofNat, BitVec.toNat_ofNat] at htoNat
  omega

/-- A burst starts at its slot's address, in 24 bits: the first half of the slot or the second. -/
theorem burst_at (s : State) (words : List Word) (second : Bool) :
    At s (burst s.pins.anchor s.out.w words second).addr
      (0x20000 + 64 * s.out.w.toNat + if second then 32 else 0) := by
  have hanchor := s.pins.anchor.isLt
  have hw := s.out.w.isLt
  unfold At burst slotAddr anchorBase
  dsimp only
  rw [BitVec.toNat_ofNat]
  cases second <;> simp only [if_true, if_false, Bool.false_eq_true] <;> omega

/-- The engine's access is a burst of 8 words at slot W. -/
theorem accessFor_writeOut_burst {s : State} {a : Access} (h : accessFor s .writeOut = some a) :
    ∃ words, a = .firstBurst (burst s.pins.anchor s.out.w words false) ∨
      a = .secondBurst (burst s.pins.anchor s.out.w words true) := by
  rw [accessFor] at h
  split at h
  · cases h
  · next r _ =>
    split at h
    · cases h
    · cases h
      exact ⟨r.words, .inl rfl⟩
    · cases h
      exact ⟨r.words, .inr rfl⟩

/-- Settles O50, from the ring pointers and the address of a burst. -/
theorem unexportedSlotsAreNeverWritten : Obligations.UnexportedSlotsAreNeverWritten := by
  intro s c hinv hc
  refine ⟨hinv.w_exported (hinv.activeRoom c (WriteOut.active_some hc)), fun t ht => ?_⟩
  rcases ht with ht | ht
  · obtain ⟨words, h | h⟩ := accessFor_writeOut_burst ht
    · cases h
      exact ⟨_, burst_at s words false, rfl, .inl rfl⟩
    · cases h
  · obtain ⟨words, h | h⟩ := accessFor_writeOut_burst ht
    · cases h
    · cases h
      exact ⟨_, burst_at s words true, rfl, .inr rfl⟩

/-! ## Accesses to the ring (R131) -/

theorem beingWritten_iff {o : WriteOut} {slot : BitVec 11} :
    o.beingWritten slot = true ↔ slot = o.w ∧ o.active ≠ none := by
  rw [WriteOut.beingWritten, Bool.and_eq_true, beq_iff_eq, Option.isSome_iff_ne_none]

/-- A write into the ring is judged by the slot it starts in. -/
theorem execRing_write {s : State} {w : WriteTxn} {off : Nat} (hfree : UpstreamFree s) (haligned : w.aligned = true)
    (hat : At s w.addr off) (hlow : 0x20000 ≤ off) (hhigh : off < 0x40000) :
    exec (.statementRingAccess (.write w)) s = .next (ringWrite w off s) := by
  show Host.Outcome.next (takeUpstream (decideWrite w) s) = _
  rw [takeUpstream_free hfree, decideWrite, if_pos haligned, classify_ring hat hlow hhigh]

theorem execRing_read {s : State} {q : ReadTxn} {off : Nat} (hfree : UpstreamFree s) (haligned : q.aligned = true)
    (hat : At s q.addr off) (hlow : 0x20000 ≤ off) (hhigh : off < 0x40000) :
    exec (.statementRingAccess (.read q)) s = .next (ringRead q off s) := by
  show Host.Outcome.next (takeUpstream (decideRead q) s) = _
  rw [takeUpstream_free hfree, decideRead, if_pos haligned, classify_ring hat hlow hhigh]

theorem forwardRead_passed {s : State} {q : ReadTxn} (h : ∀ w ∈ s.link.posted, ¬ Overlaps w q) :
    forwardRead q s = { s with link := (forwardRead q s).link, answer := none } ∧
      Arbitrated (forwardRead q s) { s.link with forwarded := some q, reqRead := true } := by
  rw [forwardRead_clear h]
  refine ⟨?_, grant_arbitrated (s.forwarding q)⟩
  obtain ⟨l, hl⟩ := grant_frame (s.forwarding q)
  rw [hl]
  rfl

/-- Settles O38: a write by its slot and then by the room in the buffer, a read by its slot and then by the overlap
with the buffer. -/
theorem ringAccessIsGuarded : Obligations.RingAccessIsGuarded := by
  intro s t a off slot hfree haligned ha hat hlow hhigh hslot hu
  have hunexported : s.out.unexported (slotOfOffset off) = true ↔ Unexported s.out slot := by
    rw [hslot]
    exact unexported_iff hu _
  have hwritten : s.out.beingWritten (slotOfOffset off) = true ↔ slot = s.out.w ∧ s.out.active ≠ none := by
    rw [hslot]
    exact beingWritten_iff
  refine ⟨fun w ht hun => ?_, fun w ht hun hw hactive => ?_, fun w ht hun hno => ⟨fun hroom => ?_, fun hfull => ?_⟩,
    fun q ht hw hactive => ?_, fun q ht hno => ⟨fun hcovered => ?_, fun hclear => ?_⟩⟩
  all_goals subst ht; subst ha
  · rw [execRing_write hfree haligned hat hlow hhigh, ringWrite, if_pos (hunexported.mpr hun)]
    rfl
  · rw [execRing_write hfree haligned hat hlow hhigh, ringWrite, if_neg (mt hunexported.mp hun),
      if_pos (hwritten.mpr ⟨hw, hactive⟩)]
    rfl
  · rw [execRing_write hfree haligned hat hlow hhigh, ringWrite, if_neg (mt hunexported.mp hun),
      if_neg (mt hwritten.mp hno)]
    exact ⟨_, rfl, postWrite_accepted ((bufferRoom_iff s).mpr hroom) w⟩
  · rw [execRing_write hfree haligned hat hlow hhigh, ringWrite, if_neg (mt hunexported.mp hun),
      if_neg (mt hwritten.mp hno), postWrite_full hfull]
    rfl
  · rw [execRing_read hfree haligned hat hlow hhigh, ringRead, if_pos (hwritten.mpr ⟨hw, hactive⟩)]
    rfl
  · rw [execRing_read hfree haligned hat hlow hhigh, ringRead, if_neg (mt hwritten.mp hno),
      forwardRead_covered hcovered]
    rfl
  · rw [execRing_read hfree haligned hat hlow hhigh, ringRead, if_neg (mt hwritten.mp hno)]
    exact ⟨_, rfl, forwardRead_passed hclear⟩

/-! ## Export (R132, R137) -/

/-- What the engine keeps when it chooses: W, X, U, the sequence number, the queue, and each channel's outcome. -/
theorem choose_out (s : State) : (choose s).out = { s.out with
    chanI := (choose s).out.chanI, chanP := (choose s).out.chanP, lastActive := (choose s).out.lastActive
    record := (choose s).out.record } := by
  cases hc : s.out.active with
  | some c => rw [choose_active hc]
  | none =>
    rcases choose_cases (WriteOut.active_none_iff.mp hc) with ⟨_, _, h⟩ | ⟨_, c, _, h⟩ | ⟨_, h⟩
    · rw [h]
    · rw [h]
      cases c <;> rfl
    · rw [h]

theorem activate_outcome (c d : Channel) (s : State) :
    ((activate c s).out.chan d).outcome = (s.out.chan d).outcome := by
  cases c <;> cases d <;> rfl

theorem Chan.waited_outcome (x : Chan) : x.waited.outcome = x.outcome := by
  unfold Chan.waited
  split <;> rfl

theorem Chan.resumed_outcome (x : Chan) : x.resumed.outcome = x.outcome := by
  unfold Chan.resumed
  split <;> rfl

theorem choose_outcome (s : State) (d : Channel) : ((choose s).out.chan d).outcome = (s.out.chan d).outcome := by
  cases hc : s.out.active with
  | some c => rw [choose_active hc]
  | none =>
    rcases choose_cases (WriteOut.active_none_iff.mp hc) with ⟨_, _, h⟩ | ⟨_, c, _, h⟩ | ⟨_, h⟩
    · rw [h]
    · rw [h, activate_outcome]
    · rw [h]
      cases d <;> exact Chan.waited_outcome _

/-- With room in the ring a channel that is PENDING or ACTIVE stays so, and one of the two is ACTIVE once the engine
has chosen. -/
theorem choose_engages {s : State} (hroom : s.out.u < 2048) {d : Channel} (hd : (s.out.chan d).state = .pending) :
    (((choose s).out.chan d).state = .pending ∨ ((choose s).out.chan d).state = .active) ∧
      (choose s).out.active ≠ none := by
  cases hc : s.out.active with
  | some c =>
    rw [choose_active hc, hc]
    exact ⟨.inl hd, nofun⟩
  | none =>
    rcases choose_cases (WriteOut.active_none_iff.mp hc) with ⟨_, hno, _⟩ | ⟨_, c, _, h⟩ | ⟨hfull, _⟩
    · exact absurd hd (hno d)
    · rw [h]
      refine ⟨?_, fun hnone => WriteOut.active_none_iff.mp hnone c (activate_chan_state c s)⟩
      rcases d.eq_or_other c with rfl | rfl
      · exact .inr (activate_chan_state _ s)
      · rw [activate_chan_other]
        exact .inl hd
    · omega

/-- EXPORT releases the records it counts where U covers them, and is refused elsewhere (R132). -/
theorem execExport_eq {s : State} (h : UpstreamFree s) (n : Word) :
    exec (.exportWrite n) s = .next (writeExport n (disarm s)) :=
  congrArg Host.Outcome.next (takeUpstream_free h (statusWrite 11 n))

/-- With room in the ring the engine raises nothing when it chooses. -/
theorem choose_room {s : State} (hroom : s.out.u < 2048) : choose s = { s with out := (choose s).out } := by
  cases hc : s.out.active with
  | some c => rw [choose_active hc]
  | none =>
    rcases choose_cases (WriteOut.active_none_iff.mp hc) with ⟨_, _, h⟩ | ⟨_, c, _, h⟩ | ⟨hfull, _⟩
    · rw [h]
    · rw [h]
      rfl
    · omega

/-- An EXPORT of one record or more leaves the ring room, so that the channels that wait resume and the engine
chooses. -/
theorem writeExport_some {n : Word} {s : State} (hn : n ≠ 0) (hle : n.toNat ≤ s.out.u) (hu : s.out.u ≤ 2048) :
    writeExport n s = acceptWrite { s with out := (choose (exported n.toNat s)).out } ∧
      (exported n.toNat s).out.u < 2048 := by
  have hpos : n.toNat ≠ 0 := fun h => hn (BitVec.eq_of_toNat_eq h)
  have hroom : (exported n.toNat s).out.u < 2048 := by
    show s.out.u - n.toNat < 2048
    omega
  refine ⟨?_, hroom⟩
  unfold writeExport
  rw [if_pos hle, exportRecords_some hpos, choose_room hroom]
  rfl

theorem writeExport_over {n : Word} {s : State} (h : s.out.u < n.toNat) : writeExport n s = respond .refuse s :=
  if_neg (Nat.not_le.mpr h)

theorem writeExport_zero (s : State) : writeExport 0 s = acceptWrite s := by
  have hsame : exportRecords 0 s = s := congrArg (fun o => { s with out := o }) (exportRecords_none s)
  exact (if_pos (Nat.zero_le _)).trans (congrArg acceptWrite hsame)

/-- Settles O48, by the count. -/
theorem exportReleasesSlots : Obligations.ExportReleasesSlots := by
  intro s n hfree hu
  rw [execExport_eq hfree]
  refine ⟨fun hover => ?_, fun hzero => ?_, fun hn hle => ?_⟩
  · rw [writeExport_over (s := disarm s) hover]
    rfl
  · rw [hzero, writeExport_zero]
    rfl
  · obtain ⟨hwrite, hroom⟩ := writeExport_some (s := disarm s) hn hle hu
    have hwaits : ∀ c, (s.out.chan c).state = .waitingExport →
        ((exported n.toNat (disarm s)).out.chan c).state = .pending := fun c hc => by
      rw [exported_chan, Chan.resumed, if_pos (show ((disarm s).out.chan c).state = .waitingExport from hc)]
    refine ⟨_, congrArg _ hwrite, ?_, fun c => ?_, fun c hc => ?_, fun c hc => ?_⟩
    · rw [choose_out]
      rfl
    · show ((choose (exported n.toNat (disarm s))).out.chan c).outcome = _
      rw [choose_outcome, exported_chan, Chan.resumed_outcome]
      rfl
    · exact (choose_engages hroom (hwaits c hc)).1
    · exact (choose_engages hroom (hwaits c hc)).2

end Sys2Proof.Machine
end

section
/-! SUPPORT. The period commands (O51; R145, R146), and what handing work to a channel does, by the room in the ring
(R134, R135). -/

namespace Sys2Proof.Machine

/-! ## Work handed to a channel, by the room in the ring -/

theorem handWork_busy {s : State} {c : Channel} (h : (s.out.chan c).state ≠ .idle) : handWork c s = s := if_neg h

/-- With room in the ring an IDLE channel becomes PENDING and the engine chooses; nothing is raised. -/
theorem handWork_room {s : State} {c : Channel} (h : (s.out.chan c).state = .idle) (hroom : s.out.u < 2048) :
    handWork c s = { s with out := (choose (setChanState c .pending s)).out } := by
  have hsame : (setChanState c .pending s).out.u < 2048 := by rwa [setChanState_u]
  rw [handWork, if_pos h]
  refine (if_pos hroom).trans ?_
  rw [choose_room hsame]
  rfl

/-- With none it waits for an EXPORT, which RING_FULL says. -/
theorem handWork_full {s : State} {c : Channel} (h : (s.out.chan c).state = .idle) (hfull : ¬ s.out.u < 2048) :
    handWork c s = raise .ringFull (setChanState c .waitingExport s) := by
  rw [handWork, if_pos h]
  exact if_neg hfull

theorem setChanState_out_eq (c : Channel) (st : ChannelState) (s : State) : (setChanState c st s).out =
    { s.out with chanI := (setChanState c st s).out.chanI, chanP := (setChanState c st s).out.chanP } := by
  cases c <;> rfl

/-- Handing work to a channel moves the channels, the channel ACTIVE last and the record, and raises RING_FULL
alone. -/
theorem handWork_eq (c : Channel) (s : State) : handWork c s = { s with
    out := { s.out with
      chanI := (handWork c s).out.chanI, chanP := (handWork c s).out.chanP
      lastActive := (handWork c s).out.lastActive, record := (handWork c s).out.record }
    status := { s.status with causes := (handWork c s).status.causes } } := by
  by_cases hidle : (s.out.chan c).state = .idle
  · by_cases hroom : s.out.u < 2048
    · have hout := choose_out (setChanState c .pending s)
      rw [setChanState_out_eq] at hout
      rw [handWork_room hidle hroom]
      exact congrArg (fun o => { s with out := o }) hout
    · rw [handWork_full hidle hroom]
      cases c <;> rfl
  · rw [handWork_busy hidle]

theorem handWork_causeSet (c : Channel) (s : State) {x : Cause} (hx : x ≠ .ringFull) :
    (handWork c s).causeSet x = s.causeSet x := by
  by_cases hidle : (s.out.chan c).state = .idle
  · by_cases hroom : s.out.u < 2048
    · rw [handWork_room hidle hroom]
      rfl
    · rw [handWork_full hidle hroom, causeSet_raise, beq_false_of_ne hx, Bool.or_false]
      rfl
  · rw [handWork_busy hidle]

/-- An ACTIVE channel keeps the other, IDLE until now, PENDING behind it. -/
theorem handWork_behind {s : State} {c : Channel} (hidle : (s.out.chan c).state = .idle) (hroom : s.out.u < 2048)
    (hactive : (s.out.chan c.other).state = .active) : ((handWork c s).out.chan c).state = .pending := by
  obtain ⟨hsame, hother⟩ := setChanState_chan c .pending s
  have hbusy : (setChanState c .pending s).out.active ≠ none := fun hno =>
    WriteOut.active_none_iff.mp hno c.other (hother ▸ hactive)
  obtain ⟨d, hd⟩ := Option.ne_none_iff_exists'.mp hbusy
  rw [handWork_room hidle hroom, choose_active hd]
  exact hsame

/-- With the other channel neither ACTIVE nor PENDING the channel starts at once. -/
theorem handWork_starts {s : State} {c : Channel} (hidle : (s.out.chan c).state = .idle) (hroom : s.out.u < 2048)
    (hactive : (s.out.chan c.other).state ≠ .active) (hpending : (s.out.chan c.other).state ≠ .pending) :
    (handWork c s).out = (activate c (setChanState c .pending s)).out := by
  obtain ⟨hsame, hother⟩ := setChanState_chan c .pending s
  have hfree : ∀ d, ((setChanState c .pending s).out.chan d).state ≠ .active := by
    rw [Channel.forall_iff c, hsame, hother]
    exact ⟨nofun, hactive⟩
  have hroom' : (setChanState c .pending s).out.u < 2048 := by rwa [setChanState_u]
  rw [handWork_room hidle hroom]
  rcases choose_cases hfree with ⟨_, hno, _⟩ | ⟨_, d, hd, h⟩ | ⟨hfull, _⟩
  · exact absurd hsame (hno c)
  · rcases d.eq_or_other c with rfl | rfl
    · rw [h]
    · rw [hother] at hd
      exact absurd hd hpending
  · omega

/-- A full ring has the channel wait and raises RING_FULL. -/
theorem handWork_waits {s : State} {c : Channel} (hidle : (s.out.chan c).state = .idle) (hfull : ¬ s.out.u < 2048) :
    ((handWork c s).out.chan c).state = .waitingExport ∧ (handWork c s).causeSet .ringFull = true := by
  rw [handWork_full hidle hfull, causeSet_raise]
  exact ⟨(setChanState_chan c .waitingExport s).1, by rw [beq_self_eq_true, Bool.or_true]⟩

/-! ## PERIOD_CLOSE and PERIOD_RESEND -/

theorem execPeriodClose_eq {s : State} (h : UpstreamFree s) :
    exec .periodClose s = .next (commandPeriodClose (disarm s)) := congrArg Host.Outcome.next (takeUpstream_free h _)

theorem execPeriodResend_eq {s : State} (h : UpstreamFree s) :
    exec .periodResend s = .next (commandPeriodResend (disarm s)) :=
  congrArg Host.Outcome.next (takeUpstream_free h _)

/-- PERIOD_CLOSE answers its outcome, and DONE sets the period pending. -/
theorem commandPeriodClose_eq (s : State) : commandPeriodClose s = { s with
    answer := some (.accept [])
    period := { s.period with pending := s.period.pending || periodCloseOutcome s == CmdOutcome.done }
    status := { s.status with command := { code := 4, outcome := periodCloseOutcome s, detail := 0 } } } := by
  unfold commandPeriodClose
  by_cases h : periodCloseOutcome s = .done
  · rw [if_pos h, h, beq_self_eq_true, Bool.or_true]
    rfl
  · rw [if_neg h, beq_false_of_ne h, Bool.or_false]
    rfl

/-- Channel P has nothing to write again (R146). -/
theorem hasWork_p_false_iff {s : State} :
    hasWork s .p = false ↔ (∀ u : UnitId, s.snapshots[u] = none) ∧ s.period.trailer = none := by
  rw [← Bool.not_eq_true, hasWork_p_iff, not_or, not_exists]
  simp only [Bool.not_eq_true, Option.isSome_eq_false_iff, Option.isNone_iff_eq_none]

theorem periodCloseOutcome_loading {s : State} (h : s.status.mode = .loading) : periodCloseOutcome s = .wrongMode :=
  if_pos (State.running_of_loading h)

theorem periodCloseOutcome_running {s : State} (h : s.status.mode = .running) : periodCloseOutcome s =
    if s.period.pending then .periodPending
    else if s.markHeld || s.period.trailer.isSome then .periodBusy
    else .done :=
  if_neg (by rw [(State.running_iff s).mpr h]; decide)

/-- Settles O51: PERIOD_CLOSE by its conditions in order, PERIOD_RESEND by what channel P holds, whether it is IDLE and
the room in the ring. -/
theorem periodCommandsAreJudged : Obligations.PeriodCommandsAreJudged := by
  intro s hfree
  rw [execPeriodClose_eq hfree, execPeriodResend_eq hfree]
  refine ⟨⟨periodCloseOutcome s, congrArg _ (commandPeriodClose_eq (disarm s)), periodCloseOutcome_loading,
    fun hrun hpending => ?_, fun hrun hpending hbusy => ?_, fun hrun hpending htrailer hnomark => ?_⟩,
    fun hnone htrailer => ?_, fun hheld => ?_⟩
  · rw [periodCloseOutcome_running hrun, if_pos hpending]
  · rw [periodCloseOutcome_running hrun, hpending, if_neg (by decide), if_pos]
    rw [Bool.or_eq_true, State.markHeld_iff]
    exact hbusy.imp id Option.isSome_iff_ne_none.mpr
  · rw [periodCloseOutcome_running hrun, hpending, if_neg (by decide), htrailer, if_neg]
    rw [Option.isSome_none, Bool.or_false, State.markHeld_iff]
    rintro ⟨u, x, hx, hmark⟩
    rw [hnomark u x hx] at hmark
    cases hmark
  · have hwork : hasWork (disarm s) .p = false := hasWork_p_false_iff.mpr ⟨hnone, htrailer⟩
    rw [commandPeriodResend, hwork]
    rfl
  · have hwork : hasWork (disarm s) .p = true := by
      refine hasWork_p_iff.mpr (hheld.imp ?_ Option.isSome_iff_ne_none.mpr)
      rintro ⟨u, hu⟩
      exact ⟨u, Option.isSome_iff_ne_none.mpr hu⟩
    rw [commandPeriodResend, if_pos hwork]
    refine ⟨fun hbusy => ?_, fun hidle => ⟨_, rfl, ?_, fun x hx => ?_, fun hroom hactive => ?_,
      fun hroom hactive hpending => ?_, fun hfull => ?_⟩⟩
    · rw [handWork_busy (s := disarm s) (c := .p) hbusy]
      rfl
    · rw [handWork_eq .p (disarm s)]
      rfl
    · exact handWork_causeSet .p (disarm s) hx
    · exact handWork_behind (s := disarm s) (c := .p) hidle hroom hactive
    · show ((handWork .p (disarm s)).out.chan .p).state = .active
      rw [handWork_starts (s := disarm s) (c := .p) hidle hroom hactive hpending]
      exact activate_chan_state .p _
    · refine handWork_waits (s := disarm s) (c := .p) hidle ?_
      show ¬ s.out.u < 2048
      omega

end Sys2Proof.Machine
end

section
/-! SUPPORT. The booking stages and the pricing of a close (O22, O24, O25, O26; R52 to R61): the sums of the model over
lists of meters and zones as the sums of the obligations over every meter and zone. -/

namespace Sys2Proof.Machine

/-! ## Sums over the meters and the zones -/

theorem sum_map_filter {α : Type} (l : List α) (p : α → Bool) (f : α → Int) :
    ((l.filter p).map f).sum = (l.map fun x => if p x = true then f x else 0).sum := by
  induction l with
  | nil => rfl
  | cons x l ih =>
    rw [List.map_cons, List.sum_cons, ← ih, List.filter_cons]
    split
    · rw [List.map_cons, List.sum_cons]
    · rw [Int.zero_add]

theorem toList_eq_map {α : Type} {n : Nat} (v : Vector α n) : v.toList = (List.finRange n).map fun i => v[i] := by
  refine List.ext_getElem (by simp) fun i h₁ h₂ => ?_
  simp

/-- A sum over the meters of a snapshot that meet a test is a sum over every meter. -/
theorem meters_sum (c : Close) (p : SnapMeter → Bool) (f : SnapMeter → Int) :
    ((c.meters.toList.filter p).map f).sum =
      ((List.finRange 512).map fun i : MeterId => if p c.meters[i] = true then f c.meters[i] else 0).sum := by
  rw [sum_map_filter, toList_eq_map, List.map_map]
  rfl

theorem metersOf_sum (c : Close) (k : MeterKind) (m : Medium) (keep : SnapMeter → Bool) (f : SnapMeter → Int) :
    (((c.metersOf k m).filter keep).map f).sum = sumOver c k m keep f := by
  unfold Close.metersOf sumOver
  rw [List.filter_filter, meters_sum]
  refine congrArg List.sum (List.map_congr_left fun i _ => if_congr ?_ rfl rfl)
  rw [Bool.and_eq_true, Bool.and_eq_true, beq_iff_eq, beq_iff_eq]
  exact ⟨fun ⟨hkeep, hkind, hmedium⟩ => ⟨hkind, hmedium, hkeep⟩, fun ⟨hkind, hmedium, hkeep⟩ => ⟨hkeep, hkind, hmedium⟩⟩

theorem sumOf_eq (c : Close) (k : MeterKind) (m : Medium) :
    c.sumOf k m = sumOver c k m (fun _ => true) (·.energy) := by
  rw [← metersOf_sum, List.filter_true]
  rfl

theorem mediumMeters_sum (c : Close) (m : Medium) (f : SnapMeter → Int) :
    ((c.meters.toList.filter fun x => x.medium == m).map f).sum = sumMedium c m f := by
  rw [meters_sum, sumMedium]
  exact congrArg List.sum (List.map_congr_left fun i _ => if_congr beq_iff_eq rfl rfl)

theorem zonePool_eq (c : Close) (z : ZoneId) : c.zonePool z = zoneMetered c z := by
  unfold Close.zonePool Close.zoneMeters zoneMetered
  rw [meters_sum]
  refine congrArg List.sum (List.map_congr_left fun i _ => if_congr ?_ rfl rfl)
  rw [Bool.and_eq_true, beq_iff_eq, beq_iff_eq]

/-! ## Crediting (R52) -/

theorem credited_eq (c : Close) (b : UnitId) : c.credited b = receiver c b := by
  unfold Close.credited receiver
  refine if_congr ?_ rfl rfl
  cases c.occ[b] <;> decide

theorem creditedMeters_sum (c : Close) (u : UnitId) (m : Medium) (f : SnapMeter → Int) :
    ((c.creditedMeters u m).map f).sum = sumOver c .unit m (fun x => receiver c x.binding == u) f := by
  unfold Close.creditedMeters
  rw [metersOf_sum]
  simp only [credited_eq]

theorem creditedShares_eq (c : Close) (shares : List (Member × Nat)) (u : UnitId) :
    (c.creditedShares shares u : Int) = sharesTo c u shares := by
  unfold Close.creditedShares sharesTo
  rw [Nat.cast_list_sum, List.map_map, sum_map_filter]
  refine congrArg List.sum (List.map_congr_left fun x _ => ?_)
  simp only [credited_eq, beq_iff_eq]
  rfl

/-! ## Stage 2 -/

theorem execStage_direct {s : State} {c : Close} (hc : s.close = some c) (hn : c.next = .direct) :
    exec .stageDirect s = .next (stageDirect c s) := congrArg Host.Outcome.next (runStage_due hc hn)

/-- Settles O22, from the figures that stage 2 books. -/
theorem stageDirectBooksUnitMeters : Obligations.StageDirectBooksUnitMeters := by
  intro s c hc hn
  refine ⟨_, execStage_direct hc hn, rfl, fun u m f g e q hf hg he hq => ?_⟩
  rw [stageDirect_get, creditedMeters_sum, creditedMeters_sum, ← he, ← hq, ← hf] at hg
  subst hg
  exact ⟨rfl, accAdd_added _ _, accAdd_added _ _, accAdd_added _ _⟩

/-! ## Stage 5 -/

theorem execStage_price {s : State} {c : Close} (hc : s.close = some c) (hn : c.next = .price) :
    exec .stagePrice s = .next (stagePrice c s) := congrArg Host.Outcome.next (runStage_due hc hn)

/-- The price of a tariff and band stands at place 8 × tariff + band (R19). -/
theorem price_eq (p : Plan) (tariff : Fin 4) (band : Fin 8) (m : Medium) {i : Fin 32}
    (h : i.val = 8 * tariff.val + band.val) : p.price tariff band m = p.prices[i].get m := by
  unfold Plan.price
  simp only [Fin.getElem_fin, h]

/-- The quotient by 1000 and what it leaves make up N exactly (R60). -/
theorem Figures.priced_exact (price : Nat) (f : Figures)
    (hfits : Fits64 (f.cost + (f.intervalSum * price + f.remainder) / 1000)) :
    1000 * (f.priced price).cost + (f.priced price).remainder =
      1000 * f.cost + f.remainder + f.intervalSum * price := by
  have hcost : (f.priced price).cost = f.cost + (f.intervalSum * price + f.remainder) / 1000 :=
    accAdd_added f.cost _ hfits
  have hrem : (f.priced price).remainder = ((f.intervalSum * price + f.remainder) % 1000).toNat := rfl
  rw [hcost, hrem]
  generalize f.intervalSum * (price : Int) = n
  omega

/-- Settles O26, from the division by 1000. -/
theorem stagePriceIsExact : Obligations.StagePriceIsExact := by
  intro s c hc hn
  refine ⟨_, execStage_price hc hn, rfl, fun u m f g price i hf hg hi hprice => ?_⟩
  rw [stagePrice_get, price_eq _ _ _ _ hi, ← hf] at hg
  subst hg hprice
  exact ⟨rfl, Figures.priced_remainder _ _, Figures.priced_exact _ f⟩

end Sys2Proof.Machine
end

section
/-! SUPPORT. Pools at a close (O24, O25; R54 to R59): what a zone's pool becomes, and what each slot is credited. -/

namespace Sys2Proof.Machine

/-! ## A pool -/

theorem sharePool_shared {p : Int} {ms : List Member} (h : Shared p ms) (z : ZoneWork) : sharePool p ms z =
    { shares := shareOut p.toNat z.pointer ms
      work := { carry := 0, pointer := pointerAfter p.toNat z.pointer ms } } := by
  obtain ⟨hp, hms, hw⟩ := h
  refine if_neg ?_
  rintro (hneg | hnil | hzero)
  · omega
  · exact hms hnil
  · exact hw hzero

theorem sharePool_carried {p : Int} {ms : List Member} (h : ¬ Shared p ms) (z : ZoneWork) :
    sharePool p ms z = { shares := [], work := { z with carry := acc64 p } } := by
  refine if_pos (Classical.byContradiction fun hno => h ?_)
  rw [not_or, not_or, Int.not_lt] at hno
  exact hno

/-- What a pool's result credits to a slot: its shares, where the pool is shared. -/
theorem sharePool_credit (c : Close) (u : UnitId) {p : Int} {ms : List Member} (z : ZoneWork) :
    (c.creditedShares (sharePool p ms z).shares u : Int) =
      if 0 ≤ p ∧ ms ≠ [] ∧ weight ms ≠ 0 then sharesTo c u (shareOut p.toNat z.pointer ms) else 0 := by
  rw [creditedShares_eq]
  split
  · next h => rw [sharePool_shared h]
  · next h =>
    rw [sharePool_carried h]
    rfl

/-! ## Stage 3 -/

theorem execStage_zones {s : State} {c : Close} (hc : s.close = some c) (hn : c.next = .zones) :
    exec .stageZones s = .next (stageZones c s) := congrArg Host.Outcome.next (runStage_due hc hn)

theorem stageZones_work (c : Close) (s : State) (z : ZoneId) : (stageZones c s).zoneWork[z] =
    if z.val < 30 ∧ s.plan.zones[z].enable then (zoneResult c s z).work else s.zoneWork[z] := by
  unfold stageZones
  exact getElem_ofFn_fin _ z

theorem zoneResult_eq (c : Close) (s : State) (z : ZoneId) : zoneResult c s z =
    sharePool (zoneMetered c z + s.zoneWork[z].carry) (s.plan.members z) s.zoneWork[z] := by
  rw [zoneResult, zonePool_eq]

/-- A common zone's medium is that of its entry (R13). -/
theorem zoneMedium_common (p : Plan) {z : ZoneId} (h : z.val < 30) : p.zoneMedium z = p.zones[z].medium := by
  unfold Plan.zoneMedium
  rw [if_neg (by omega), if_neg (by omega)]

/-- The zone energy of a slot is the sum, over every zone, of what the enabled common zones of the medium credit to
it. -/
theorem zoneEnergy_eq (c : Close) (s : State) (u : UnitId) (m : Medium) : (zoneEnergy c s u m : Int) =
    ((List.finRange 32).map fun z : ZoneId =>
      if (s.plan.zoneMedium z == m && (z.val < 30 && s.plan.zones[z].enable)) = true
      then (c.creditedShares (zoneResult c s z).shares u : Int) else 0).sum := by
  unfold zoneEnergy commonZones
  rw [List.filter_map, List.filter_filter, List.map_map, Nat.cast_list_sum, List.map_map, sum_map_filter]
  rfl

/-- Settles O24: the working values zone by zone, the figures from the sum over the zones. -/
theorem stageZonesShareOrCarry : Obligations.StageZonesShareOrCarry := by
  intro s c hc hn
  refine ⟨_, execStage_zones hc hn, rfl, fun z hz => ?_, fun z p hz henable hp => ⟨fun hshared => ?_, fun hno => ?_⟩,
    fun u m f g credit hf hg hcredit hnone => ?_⟩
  · rw [stageZones_work, if_neg hz]
  · rw [stageZones_work, if_pos ⟨hz, henable⟩, zoneResult_eq, ← hp, sharePool_shared hshared]
  · rw [stageZones_work, if_pos ⟨hz, henable⟩, zoneResult_eq, ← hp, sharePool_carried hno]
    exact ⟨rfl, acc64_fits⟩
  · have hsum : (zoneEnergy c s u m : Int) = ((List.finRange 32).map credit).sum := by
      rw [zoneEnergy_eq]
      refine congrArg List.sum (List.map_congr_left fun z _ => ?_)
      rw [zoneResult_eq, sharePool_credit]
      by_cases hzone : z.val < 30 ∧ s.plan.zones[z].enable = true ∧ s.plan.zones[z].medium = m
      · obtain ⟨hz, henable, hmedium⟩ := hzone
        have htest : (s.plan.zoneMedium z == m && (z.val < 30 && s.plan.zones[z].enable)) = true := by
          rw [zoneMedium_common _ hz, hmedium, henable, beq_self_eq_true, decide_eq_true hz]
          rfl
        rw [if_pos htest]
        split
        · next hshared => exact (hcredit z hz henable hmedium hshared).symm
        · next hno => exact (hnone z fun ⟨_, _, _, hshared⟩ => hno hshared).symm
      · rw [if_neg, hnone z fun ⟨hz, henable, hmedium, _⟩ => hzone ⟨hz, henable, hmedium⟩]
        rw [Bool.and_eq_true, Bool.and_eq_true, beq_iff_eq, decide_eq_true_eq]
        rintro ⟨hmedium, hz, henable⟩
        exact hzone ⟨hz, henable, zoneMedium_common s.plan hz ▸ hmedium⟩
    rw [stageZones_get, hsum, ← hf] at hg
    subst hg
    exact ⟨rfl, accAdd_added _ _, accAdd_added _ _⟩

/-! ## Stage 4 -/

theorem execStage_residual {s : State} {c : Close} (hc : s.close = some c) (hn : c.next = .residual) :
    exec .stageResidual s = .next (stageResidual c s) := congrArg Host.Outcome.next (runStage_due hc hn)

/-- A meter feeds a common zone where some enabled common zone is the one it is bound to. -/
theorem feedsCommonZone_eq (p : Plan) (x : SnapMeter) : feedsCommonZone p x =
    (List.finRange 32).any fun y : ZoneId => y.val == x.binding.val && decide (y.val < 30) && p.zones[y].enable := by
  rw [Bool.eq_iff_iff, List.any_eq_true]
  unfold feedsCommonZone
  split
  · next z hz =>
    rw [finOf_eq_some] at hz
    constructor
    · intro h
      exact ⟨z, List.mem_finRange z, by rw [beq_iff_eq.mpr hz]; exact h⟩
    · rintro ⟨y, _, hy⟩
      rw [Bool.and_assoc, Bool.and_eq_true, beq_iff_eq] at hy
      obtain ⟨hbound, hfeeds⟩ := hy
      rw [show z = y from Fin.ext (hz.trans hbound.symm)]
      exact hfeeds
  · next hno =>
    refine ⟨fun h => (by cases h), fun ⟨y, _, hy⟩ => ?_⟩
    rw [Bool.and_assoc, Bool.and_eq_true, beq_iff_eq] at hy
    rw [← hy.1, finOf_val] at hno
    cases hno

/-- The residual of a medium, by the sums over every meter (R58). -/
theorem residual_eq (c : Close) (p : Plan) (m : Medium) : residual c p m =
    sumOver c .plant m (fun _ => true) (·.energy) - sumOver c .unit m (fun _ => true) (·.energy)
      - sumOver c .zone m (fun x => (List.finRange 32).any fun y =>
          y.val == x.binding.val && decide (y.val < 30) && p.zones[y].enable) (·.energy) := by
  unfold residual
  have hfeeds : feedsCommonZone p = _ := funext (feedsCommonZone_eq p)
  rw [sumOf_eq, sumOf_eq, metersOf_sum, hfeeds]

/-- The pool of a residual zone (R58, R59). -/
def residualPool (c : Close) (s : State) (m : Medium) : Int :=
  residual c s.plan m + s.zoneWork[residualZone m].carry

theorem residualResult_shared {c : Close} {s : State} {m : Medium} (henable : s.plan.zones[residualZone m].enable = true)
    (hshared : Shared (residualPool c s m) (s.plan.members (residualZone m))) : residualResult c s m =
      { shares := shareOut (residualPool c s m).toNat s.zoneWork[residualZone m].pointer
          (s.plan.members (residualZone m))
        work :=
          { carry := 0
            pointer := pointerAfter (residualPool c s m).toNat s.zoneWork[residualZone m].pointer
              (s.plan.members (residualZone m)) } } :=
  (if_pos henable).trans (sharePool_shared hshared _)

theorem residualResult_carried {c : Close} {s : State} {m : Medium}
    (h : ¬ (s.plan.zones[residualZone m].enable = true ∧
      Shared (residualPool c s m) (s.plan.members (residualZone m)))) : residualResult c s m =
      { shares := [], work := { s.zoneWork[residualZone m] with carry := acc64 (residualPool c s m) } } := by
  by_cases henable : s.plan.zones[residualZone m].enable = true
  · exact (if_pos henable).trans (sharePool_carried (fun hshared => h ⟨henable, hshared⟩) _)
  · exact if_neg henable

/-- Stage 4 moves the accounts and the zones' working values, and tells stage 8 what it has distributed. -/
theorem stageResidual_eq (c : Close) (s : State) : stageResidual c s = { s with
    accounts := (stageResidual c s).accounts, zoneWork := (stageResidual c s).zoneWork
    close := some { c with
      next := .price, distributed := Both.of fun m => ((residualResult c s m).shared : Int) } } := by
  unfold stageResidual Both.of
  rfl

theorem stageResidual_common (c : Close) (s : State) {z : ZoneId} (h : z.val < 30) :
    (stageResidual c s).zoneWork[z] = s.zoneWork[z] := by
  have hheat : (30 : ZoneId) ≠ z := fun he => by rw [← he] at h; exact absurd h (by decide)
  have hcool : (31 : ZoneId) ≠ z := fun he => by rw [← he] at h; exact absurd h (by decide)
  refine (getElem_set_fin _ (31 : ZoneId) z _).trans ?_
  rw [if_neg hcool]
  refine (getElem_set_fin _ (30 : ZoneId) z _).trans ?_
  rw [if_neg hheat]

theorem stageResidual_work (c : Close) (s : State) (m : Medium) :
    (stageResidual c s).zoneWork[residualZone m] = (residualResult c s m).work := by
  cases m with
  | heat =>
    refine (getElem_set_fin _ (31 : ZoneId) (30 : ZoneId) _).trans ?_
    rw [if_neg (by decide)]
    exact (getElem_set_fin _ (30 : ZoneId) (30 : ZoneId) _).trans (if_pos rfl)
  | cool => exact (getElem_set_fin _ (31 : ZoneId) (31 : ZoneId) _).trans (if_pos rfl)

theorem Figures.bookResidual_frame (e : Int) (f : Figures) : f.bookResidual e = { f with
    residual := (f.bookResidual e).residual, intervalSum := (f.bookResidual e).intervalSum } := rfl

theorem Figures.bookResidual_added (e : Int) (f : Figures) : Added f.residual e (f.bookResidual e).residual ∧
    Added f.intervalSum e (f.bookResidual e).intervalSum := ⟨accAdd_added _ _, accAdd_added _ _⟩

theorem Figures.bookResidual_zero (f : Figures) : f.bookResidual 0 = f := by
  unfold Figures.bookResidual
  rw [accAdd_zero, accAdd_zero]

/-- Settles O25, by whether the residual zone of the medium is enabled and its pool shared. -/
theorem stageResidualSharesOrCarries : Obligations.StageResidualSharesOrCarries := by
  intro s c hc hn
  refine ⟨_, Both.of fun m => ((residualResult c s m).shared : Int), execStage_residual hc hn,
    stageResidual_eq c s, fun z hz => stageResidual_common c s hz, fun m z p hz hp => ?_⟩
  have hzone : z = residualZone m := by
    rw [hz]
    cases m <;> rfl
  have hpool : p = residualPool c s m := by rw [hp, residualPool, residual_eq, hzone]
  have hd : (Both.of fun m => ((residualResult c s m).shared : Int)).get m = (residualResult c s m).shared := by
    cases m <;> rfl
  subst hpool
  clear hp hz
  subst hzone
  refine ⟨fun henable hshared => ?_, fun hno => ?_⟩
  · rw [stageResidual_work, hd, residualResult_shared henable hshared]
    refine ⟨rfl, ?_, fun u f g hf hg => ?_⟩
    · obtain ⟨hpos, hms, hw⟩ := hshared
      rw [PoolResult.shared, shareOut_sum hms hw]
      exact Int.toNat_of_nonneg hpos
    · have hcredit : (c.creditedShares (residualResult c s m).shares u : Int) =
          sharesTo c u (shareOut (residualPool c s m).toNat s.zoneWork[residualZone m].pointer
            (s.plan.members (residualZone m))) := by
        rw [residualResult_shared henable hshared, creditedShares_eq]
      rw [stageResidual_get, hcredit, ← hf] at hg
      subst hg
      exact ⟨Figures.bookResidual_frame _ f, Figures.bookResidual_added _ f⟩
  · rw [stageResidual_work, hd, residualResult_carried hno]
    refine ⟨rfl, acc64_fits, rfl, fun u => ?_⟩
    rw [stageResidual_get, residualResult_carried hno]
    exact Figures.bookResidual_zero _

end Sys2Proof.Machine
end

section
/-! SUPPORT. Memory's answers and timeouts (O43; R152, R153, R156, R157, R164): each ends its access, and the arbiter
acts on the link that is left. -/

namespace Sys2Proof.Machine

/-! ## The drain after the arbiter -/

/-- A drain that waits for its entries is granted, or waits on. -/
theorem grant_attends {s : State} (hreq : s.link.reqDrain = true) (hposted : s.link.posted ≠ []) :
    (grant s).link.draining = true ∨ (grant s).link.reqDrain = true := by
  rcases grant_cases s with ⟨hsame, _⟩ | ⟨r, hport, hfind⟩
  · rw [hsame]
    exact .inr hreq
  · rw [grant_given hport hfind]
    cases r with
    | drain =>
      obtain ⟨w, rest, hcons⟩ := List.exists_cons_of_ne_nil hposted
      exact .inl (Link.draining_iff.mpr ⟨w, by simp [accessFor, hcons]⟩)
    | read => exact .inr hreq
    | writeOut => exact .inr hreq

theorem endDrain_attends {s : State} (h : s.link.posted.tail ≠ []) :
    (endDrain s).link.draining = true ∨ (endDrain s).link.reqDrain = true := by
  unfold endDrain
  rw [requestDrain_eq]
  refine grant_attends ?_ h
  show (s.link.reqDrain || (!s.link.posted.tail.isEmpty && true)) = true
  simp [h]

/-- A free port that nobody waits for. -/
theorem grant_freePort_unwanted {s : State} (h : ∀ r, s.link.waits r = false) :
    (grant (freePort s)).link = { s.link with port := none } := by
  rw [grant_unwanted (s := freePort s) fun r => (congrFun (Link.waits_congr rfl rfl rfl) r).trans (h r)]
  rfl

/-! ## Each answer and timeout, by the access at the port -/

theorem execDrain_accepted {s : State} {w : WriteTxn} (h : s.link.port = some (.drain w)) :
    exec .drainWriteAccepted s = .next (endDrain s) := by
  show execDrainWriteAccepted s = _
  rw [execDrainWriteAccepted, h]

theorem execDrain_discarded {s : State} {w : WriteTxn} (h : s.link.port = some (.drain w)) :
    exec .drainWriteDiscarded s = .next (discardDrain s) := by
  show execDrainWriteDiscarded s = _
  rw [execDrainWriteDiscarded, h]

theorem execTimeout_eq (s : State) : exec .memoryTimeout s = .next (timeoutAccess s) := rfl

theorem timeoutAccess_drain {s : State} {w : WriteTxn} (h : s.link.port = some (.drain w)) :
    timeoutAccess s = discardDrain s := by rw [timeoutAccess, h]

theorem timeoutAccess_read {s : State} {q : ReadTxn} (h : s.link.port = some (.read q)) :
    timeoutAccess s = endRead .refuse s := by rw [timeoutAccess, h]

theorem timeoutAccess_burst {s : State} {w : WriteTxn}
    (h : s.link.port = some (.firstBurst w) ∨ s.link.port = some (.secondBurst w)) :
    timeoutAccess s = grant (freePort (failRecord s)) := by
  rcases h with h | h <;> rw [timeoutAccess, h]

theorem timeoutAccess_disregarded {s : State} {x : Txn} (h : s.link.port = some (.disregarded x)) :
    timeoutAccess s = grant (freePort s) := by rw [timeoutAccess, h]

theorem execRead_answered {s : State} {q : ReadTxn} (h : s.link.port = some (.read q)) (a : MemAnswer) :
    exec (.readAnswer a) s = .next (endRead (relayed a) s) := by
  show execReadAnswer a s = _
  rw [execReadAnswer, h]

theorem execRecord_abandoned {s : State} {w : WriteTxn}
    (h : s.link.port = some (.firstBurst w) ∨ s.link.port = some (.secondBurst w)) :
    exec .recordAbandoned s = .next (grant (freePort (failRecord s))) := by
  show execRecordAbandoned s = _
  rcases h with h | h <;> rw [execRecordAbandoned, h]

theorem execDisregarded_answered {s : State} {x : Txn} (h : s.link.port = some (.disregarded x)) :
    exec .disregardedMemoryAnswer s = .next (grant (freePort s)) := by
  show execDisregardedMemoryAnswer s = _
  rw [execDisregardedMemoryAnswer, h]

/-! ## What is left -/

theorem discardDrain_eq (s : State) : discardDrain s = { s with
    link := (discardDrain s).link
    status := { s.status with causes := s.status.causes ||| Cause.memoryFault.mask } } := by
  unfold discardDrain
  obtain ⟨_, h⟩ := endDrain_frame
    (raise .memoryFault { s with link := { s.link with discarded := satSucc s.link.discarded } })
  rw [h]
  rfl

theorem endRead_eq (r : Response) (s : State) :
    endRead r s = { s with link := (endRead r s).link, answer := some r } := by
  unfold endRead
  obtain ⟨_, h⟩ := grant_frame (freePort (respond r { s with link := { s.link with forwarded := none } }))
  rw [h]
  rfl

theorem grant_freePort_eq (s : State) : grant (freePort s) = { s with link := (grant (freePort s)).link } := by
  obtain ⟨_, h⟩ := grant_frame (freePort s)
  rw [h]
  rfl

theorem failRecord_link (s : State) : (failRecord s).link = s.link := by
  obtain ⟨_, _, _, h⟩ := failRecord_frame s
  rw [h]

/-- A burst that has failed leaves the port to the arbiter. -/
theorem grant_failRecord_arbitrated (s : State) :
    Arbitrated (grant (freePort (failRecord s))) { s.link with port := none } := by
  have h := grant_arbitrated (freePort (failRecord s))
  rwa [show (freePort (failRecord s)).link = { s.link with port := none } by
    rw [freePort, failRecord_link]] at h

/-- Settles O43, access by access. -/
theorem answersAndTimeoutsEndTheAccess : Obligations.AnswersAndTimeoutsEndTheAccess := by
  intro s
  refine ⟨fun w l hport hl => ⟨?_, ?_⟩, fun q a hport => ?_, fun w hport => ?_, fun x hport => ?_⟩
  · subst hl
    obtain ⟨_, hframe⟩ := endDrain_frame s
    exact ⟨_, execDrain_accepted hport, by rw [hframe], endDrain_arbitrated s, endDrain_attends⟩
  · subst hl
    refine ⟨_, execDrain_discarded hport, ?_, discardDrain_eq s, endDrain_arbitrated _, fun h => endDrain_attends h⟩
    rw [execTimeout_eq, timeoutAccess_drain hport]
  · refine ⟨_, execRead_answered hport a, ?_, ?_, grant_arbitrated _, fun ha => ?_⟩
    · have hanswer : (endRead (relayed a) s).answer = some (relayed a) := by rw [endRead_eq]
      rw [hanswer]
      exact endRead_eq _ s
    · rw [endRead_eq]
      cases a <;> rfl
    · rw [ha, execTimeout_eq, timeoutAccess_read hport]
      rfl
  · exact ⟨_, by rw [execTimeout_eq, timeoutAccess_burst hport], execRecord_abandoned hport,
      grant_failRecord_arbitrated s⟩
  · refine ⟨_, execDisregarded_answered hport, ?_, grant_freePort_eq s, grant_arbitrated _,
      fun h => grant_freePort_unwanted h⟩
    rw [execTimeout_eq, timeoutAccess_disregarded hport]

end Sys2Proof.Machine
end

section
/-! SUPPORT. Stages 7, 8 and 10 of a close (O28, O29; R64 to R67, R70): the period set, the summary that is offered, and
the end of the close. -/

namespace Sys2Proof.Machine

/-! ## What handing work to a channel leaves -/

@[simp] theorem handWork_snapshots (c : Channel) (s : State) : (handWork c s).snapshots = s.snapshots := by
  rw [handWork_eq]

@[simp] theorem handWork_period (c : Channel) (s : State) : (handWork c s).period = s.period := by rw [handWork_eq]

@[simp] theorem handWork_close (c : Channel) (s : State) : (handWork c s).close = s.close := by rw [handWork_eq]

/-- A channel that has been handed work is not IDLE. -/
theorem handWork_notIdle (c : Channel) (s : State) : ((handWork c s).out.chan c).state ≠ .idle := by
  by_cases hidle : (s.out.chan c).state = .idle
  · by_cases hroom : s.out.u < 2048
    · rw [handWork_room hidle hroom]
      have hroom' : (setChanState c .pending s).out.u < 2048 := by rwa [setChanState_u]
      obtain ⟨hstate, _⟩ := choose_engages hroom' (setChanState_chan c .pending s).1
      show ((choose (setChanState c .pending s)).out.chan c).state ≠ .idle
      rcases hstate with h | h <;> rw [h] <;> exact nofun
    · rw [(handWork_waits hidle hroom).1]
      exact nofun
  · rw [handWork_busy hidle]
    exact hidle

/-! ## Stage 7 -/

theorem execStage_period {s : State} {c : Close} (hc : s.close = some c) (hn : c.next = .period) :
    exec .stagePeriod s = .next (stagePeriod c s) := congrArg Host.Outcome.next (runStage_due hc hn)

theorem Occupancy.pays_iff {o : Occupancy} : o.pays = true ↔ o = .occupied ∨ o = .closing := by cases o <;> decide

theorem inPeriodSet_iff {c : Close} {u : UnitId} :
    c.inPeriodSet u = true ↔ u = 0 ∨ c.occ[u] = .occupied ∨ c.occ[u] = .closing := by
  rw [Close.inPeriodSet, Bool.or_eq_true, beq_iff_eq, Occupancy.pays_iff]

theorem periodTaken_snapshot (c : Close) (s : State) (u : UnitId) : (periodTaken c s).snapshots[u] =
    if c.inPeriodSet u then
      if c.finalTaken[u] then s.snapshots[u].map fun x => { x with mark := true }
      else some (statementOf s u c.boundary false true)
    else s.snapshots[u] := getElem_ofFn_fin _ u

theorem periodTaken_snapshots (c : Close) (s : State) : (periodTaken c s).snapshots = periodSnapshots c s := by
  unfold periodTaken
  rfl

theorem periodTaken_trailer (c : Close) (s : State) : (periodTaken c s).period.trailer =
    some (trailerOf s.period.number (periodSet c (periodSnapshots c s))) := by
  unfold periodTaken
  rfl

theorem periodTaken_causeSet (c : Close) (s : State) (x : Cause) : (periodTaken c s).causeSet x = s.causeSet x := by
  unfold periodTaken State.causeSet
  rfl

theorem clearPeriods_kept_all {p : UnitId → Bool} {a : Vector (Both Figures) 256} {u : UnitId} (h : p u = false) :
    (clearPeriods p a)[u] = a[u] := by
  unfold clearPeriods
  rw [getElem_ofFn_fin, if_neg (by rw [h]; decide)]

theorem clearPeriods_cleared {p : UnitId → Bool} {a : Vector (Both Figures) 256} {u : UnitId} (h : p u = true)
    (m : Medium) : ((clearPeriods p a)[u]).get m = (a[u].get m).clearPeriod := by rw [clearPeriods_get, if_pos h]

/-- The figures of a statement are the account's period figures (R46). -/
theorem statementOf_eq (s : State) (u : UnitId) (b : Time) (final mark : Bool) : statementOf s u b final mark =
    { tenancy := s.occ[u].tenancy, period := s.period.number, final := final, mark := mark
      openedAt := s.occ[u].openedAt, closing := b, tariff := s.plan.units[u].tariff
      figures := Both.of fun m =>
        { direct := (s.accounts[u].get m).direct, zone := (s.accounts[u].get m).zone
          residual := (s.accounts[u].get m).residual, estimated := (s.accounts[u].get m).estimated
          cost := (s.accounts[u].get m).cost }
      formed := none } := rfl

theorem acc64_added (x : Int) : Added 0 x (acc64 x) := by
  intro h
  rw [Int.zero_add] at h ⊢
  exact acc64_fits h

theorem trailerOf_counts (number : BitVec 16) (set : List Statement) :
    (trailerOf number set).period = number ∧ (trailerOf number set).count = set.length := ⟨rfl, rfl⟩

/-- The trailer's totals are those of the set (R66). -/
theorem trailerOf_totals (number : BitVec 16) (set : List Statement) (m : Medium) :
    Added 0 ((set.map fun y => (y.figures.get m).cost).sum) ((trailerOf number set).cost.get m) ∧
      Added 0 ((set.map fun y => (y.figures.get m).direct + (y.figures.get m).zone
        + (y.figures.get m).residual).sum) ((trailerOf number set).energy.get m) := by
  cases m <;> exact ⟨acc64_added _, acc64_added _⟩

theorem periodSet_eq (c : Close) (snaps : Vector (Option Statement) 256) : periodSet c snaps =
    (List.finRange 256).filterMap fun u : UnitId =>
      if u = 0 ∨ c.occ[u] = .occupied ∨ c.occ[u] = .closing then snaps[u] else none := by
  unfold periodSet
  refine congrFun (congrArg _ (funext fun u => ?_)) _
  exact if_congr inPeriodSet_iff rfl rfl

/-- Stage 7 with a period due, beside its tables. -/
theorem stagePeriod_frame_due {c : Close} (h : c.periodDue = true) (s : State) : stagePeriod c s = { s with
    snapshots := (stagePeriod c s).snapshots, accounts := (stagePeriod c s).accounts
    out := { s.out with
      chanI := (stagePeriod c s).out.chanI, chanP := (stagePeriod c s).out.chanP
      lastActive := (stagePeriod c s).out.lastActive, record := (stagePeriod c s).out.record }
    status := { s.status with causes := (stagePeriod c s).status.causes }
    close := some { c with next := .summary }
    period := { number := s.period.number + 1, pending := false, trailer := (stagePeriod c s).period.trailer } } := by
  rw [stagePeriod_due h]
  rw [handWork_eq .p (periodTaken c s)]
  unfold periodTaken
  rfl

/-- Settles O28: no period due, then with one the set, slot by slot, and its trailer. -/
theorem stagePeriodTakesThePeriodSet : Obligations.StagePeriodTakesThePeriodSet := by
  intro s c hc hn
  refine ⟨_, execStage_period hc hn, fun hno => stagePeriod_noPeriod hno s, fun hdue => ?_⟩
  have hsnap : (stagePeriod c s).snapshots = (periodTaken c s).snapshots := by
    rw [stagePeriod_due hdue, handWork_snapshots]
  have hacc := stagePeriod_accounts hdue s
  refine ⟨stagePeriod_frame_due hdue s, ?_, fun x hx => ?_, fun u hu => ?_, fun u hu htaken => ?_,
    fun u hu htaken => ?_, ?_⟩
  · rw [stagePeriod_due hdue]
    exact handWork_notIdle .p _
  · rw [stagePeriod_due hdue, handWork_causeSet .p _ hx, periodTaken_causeSet]
  · have hout : c.inPeriodSet u = false := by
      rw [← Bool.not_eq_true, inPeriodSet_iff, not_or, not_or]
      exact hu
    rw [hsnap, hacc, periodTaken_snapshot, if_neg (by rw [hout]; decide),
      clearPeriods_kept_all (by rw [hout]; rfl)]
    exact ⟨rfl, rfl⟩
  · rw [hsnap, hacc, periodTaken_snapshot, if_pos (inPeriodSet_iff.mpr hu), if_pos htaken,
      clearPeriods_kept_all (by rw [htaken, Bool.not_true, Bool.and_false])]
    exact ⟨rfl, rfl⟩
  · have hin := inPeriodSet_iff.mpr hu
    rw [hsnap, periodTaken_snapshot, if_pos hin, if_neg (by rw [htaken]; decide)]
    refine ⟨congrArg some (statementOf_eq s u c.boundary false true), fun m => ?_⟩
    rw [hacc, clearPeriods_cleared (by rw [hin, htaken]; rfl)]
    rfl
  · refine ⟨trailerOf s.period.number (periodSet c (periodSnapshots c s)), periodSet c (periodSnapshots c s), ?_, ?_,
      (trailerOf_counts _ _).1, (trailerOf_counts _ _).2, trailerOf_totals _ _⟩
    · rw [stagePeriod_due hdue, handWork_period, periodTaken_trailer]
    · rw [hsnap, ← periodSet_eq, periodTaken_snapshots]

/-! ## Stages 8 and 10 -/

theorem execStage_summary {s : State} {c : Close} (hc : s.close = some c) (hn : c.next = .summary) :
    exec .stageSummary s = .next (stageSummary c s) := congrArg Host.Outcome.next (runStage_due hc hn)

theorem execStage_end {s : State} {c : Close} (hc : s.close = some c) (hn : c.next = .finish) :
    exec .stageEnd s = .next (stageFinish c s) := congrArg Host.Outcome.next (runStage_due hc hn)

/-- The summary's figures of a medium, by the sums over every meter (R67). -/
theorem summaryFigures_eq (c : Close) (s : State) (m : Medium) : summaryFigures c s m =
    { plant := sumOver c .plant m (fun _ => true) (·.energy)
      unitMetered := sumOver c .unit m (fun _ => true) (·.energy)
      zoneMetered := sumOver c .zone m (fun _ => true) (·.energy)
      distributed := c.distributed.get m
      carryAfter := s.zoneWork[residualZone m].carry
      estimated := sumMedium c m (·.estimated)
      corrections := sumMedium c m (·.correction)
      writtenOff := (s.results.writtenOff.get m : Int) } := by
  unfold summaryFigures
  dsimp only
  rw [sumOf_eq, sumOf_eq, sumOf_eq, mediumMeters_sum, mediumMeters_sum]

/-- The queue has room for the summary (R134). -/
theorem summaryQueued_room {s : State} (h : s.out.holding.length < 4) (x : Summary) :
    summaryQueued x s = { s with out := { s.out with holding := s.out.holding ++ [x] } } := by
  unfold summaryQueued
  dsimp only
  rw [if_pos (show s.out.holding.length < Config.holdingDepth from h)]

/-- The queue is full: the oldest summary not being written is lost, counted and called (R134). -/
theorem summaryQueued_full {s : State} (h : 4 ≤ s.out.holding.length) (x : Summary) :
    summaryQueued x s = raise .summaryLost { s with out := { s.out with
      holding := s.out.holding.eraseIdx (if s.out.chanI.state = .active then 1 else 0) ++ [x]
      lost := satSucc s.out.lost } } := by
  unfold summaryQueued
  dsimp only
  rw [if_neg (show ¬ s.out.holding.length < Config.holdingDepth from Nat.not_lt.mpr h)]
  rfl

theorem summaryQueued_causeSet (x : Summary) (s : State) {y : Cause} (hy : y ≠ .summaryLost) :
    (summaryQueued x s).causeSet y = s.causeSet y := by
  rcases Nat.lt_or_ge s.out.holding.length 4 with h | h
  · rw [summaryQueued_room h]
    rfl
  · rw [summaryQueued_full h, causeSet_raise, beq_false_of_ne hy, Bool.or_false]
    rfl

/-- What an offer leaves beside the queue, the lost count, the channels and the causes. -/
theorem offerSummary_frame_out (x : Summary) (s : State) : offerSummary x s = { s with
    out := { s.out with
      holding := (offerSummary x s).out.holding, lost := (offerSummary x s).out.lost
      chanI := (offerSummary x s).out.chanI, chanP := (offerSummary x s).out.chanP
      lastActive := (offerSummary x s).out.lastActive, record := (offerSummary x s).out.record }
    status := { s.status with causes := (offerSummary x s).status.causes } } := by
  rw [offerSummary_eq, handWork_eq .i (summaryQueued x s)]
  rcases Nat.lt_or_ge s.out.holding.length 4 with h | h
  · rw [summaryQueued_room h]
  · rw [summaryQueued_full h]
    rfl

/-- The queue and the lost count are those the summary was queued with. -/
theorem offerSummary_queue (x : Summary) (s : State) : (offerSummary x s).out.holding = (summaryQueued x s).out.holding ∧
    (offerSummary x s).out.lost = (summaryQueued x s).out.lost := by
  rw [offerSummary_eq, handWork_eq]
  exact ⟨rfl, rfl⟩

/-- Queueing a summary leaves the channels and U. -/
theorem summaryQueued_engine (x : Summary) (s : State) :
    (∀ d, (summaryQueued x s).out.chan d = s.out.chan d) ∧ (summaryQueued x s).out.u = s.out.u := by
  obtain ⟨_, _, _, h⟩ := summaryQueued_frame x s
  rw [h]
  exact ⟨fun d => by cases d <;> rfl, rfl⟩

/-- Settles O29: the end of the close; then the summary offered, by the room in the queue, the state of channel I and
the room in the ring. -/
theorem stageSummaryOffersAndStageEndCloses : Obligations.StageSummaryOffersAndStageEndCloses := by
  intro s c hc
  refine ⟨fun hn => execStage_end hc hn, fun hn => ?_⟩
  refine ⟨_, summaryOf c s, execStage_summary hc hn, ?_⟩
  unfold stageSummary
  generalize hb : ({ s with results := ChangeResults.initial, close := some { c with next := .changes } } : State) = b
  have hbout : b.out = s.out := by rw [← hb]
  have hbcause : ∀ y, b.causeSet y = s.causeSet y := fun y => by
    rw [← hb]
    rfl
  obtain ⟨hchan, hu⟩ := summaryQueued_engine (summaryOf c s) b
  rw [hbout] at hchan hu
  have hi : ((summaryQueued (summaryOf c s) b).out.chan .i).state = s.out.chanI.state := congrArg Chan.state (hchan .i)
  have hp : ((summaryQueued (summaryOf c s) b).out.chan Channel.i.other).state = s.out.chanP.state :=
    congrArg Chan.state (hchan .p)
  obtain ⟨hhold, hlost⟩ := offerSummary_queue (summaryOf c s) b
  refine ⟨?_, fun y hsum hring => ?_, rfl, rfl, rfl, rfl, rfl, rfl, rfl, rfl, rfl, fun m => ?_, fun hroom => ?_,
    fun hfull => ?_, fun hbusy => ?_, fun hidle hroom hactive hpending => ?_, fun hidle hroom hactive => ?_,
    fun hidle hfull => ?_⟩
  · refine (offerSummary_frame_out (summaryOf c s) b).trans ?_
    rw [← hb]
    rfl
  · rw [offerSummary_eq, handWork_causeSet .i _ hring, summaryQueued_causeSet _ _ hsum, hbcause]
  · refine Eq.trans ?_ ((summaryFigures_eq c s m).trans ?_)
    · cases m <;> rfl
    · cases m <;> rfl
  · rw [hhold, hlost, offerSummary_eq, handWork_causeSet .i _ (x := .summaryLost) nofun,
      summaryQueued_room (hbout ▸ hroom), ← hbcause, hbout]
    exact ⟨rfl, rfl, rfl⟩
  · rw [hhold, hlost, offerSummary_eq, handWork_causeSet .i _ (x := .summaryLost) nofun,
      summaryQueued_full (hbout ▸ hfull), hbout]
    refine ⟨rfl, ?_, rfl⟩
    rw [causeSet_raise, beq_self_eq_true, Bool.or_true]
  · rw [offerSummary_eq, handWork_busy (c := .i) (hi ▸ hbusy)]
    exact ⟨hchan .i, hchan .p⟩
  · show ((offerSummary (summaryOf c s) b).out.chan .i).state = .active
    rw [offerSummary_eq, handWork_starts (c := .i) (hi.trans hidle) (hu ▸ hroom) (hp ▸ hactive) (hp ▸ hpending)]
    exact activate_chan_state .i _
  · rw [offerSummary_eq]
    exact handWork_behind (c := .i) (hi.trans hidle) (hu ▸ hroom) (hp.trans hactive)
  · rw [offerSummary_eq]
    exact handWork_waits (c := .i) (hi.trans hidle) (by omega)

end Sys2Proof.Machine
end

section
/-! SUPPORT. Stage 6 of a close (O27; R62, R63, R107 to R109): the decision on each slot, and what it takes and raises. -/

namespace Sys2Proof.Machine

/-! ## The decision on one slot -/

/-- The deadline count at the boundary: it rises where the boundary has passed since the last command (R107). -/
theorem advanceDeadline_eq (snap : Occupancy) (r : OccRecord) : advanceDeadline snap r = { r with
    deadline := if (r.state = .opening ∨ r.state = .closing) ∧ snap = r.state ∧ r.cmdSinceBoundary = false ∧
      r.deadline < 8 then r.deadline + 1 else r.deadline } := by
  have hwaits : r.state.waits = true ↔ r.state = .opening ∨ r.state = .closing := by cases r.state <;> decide
  unfold advanceDeadline
  simp only [hwaits, show Config.deadlineLimit = 8 from rfl]
  split <;> rfl

theorem finalsSatisfied_iff {r : OccRecord} :
    r.finalsSatisfied = true ↔ r.outstanding = 0 ∨ r.finalsForced = true ∨ 8 ≤ r.deadline := by
  rw [OccRecord.finalsSatisfied, Bool.or_eq_true, Bool.or_eq_true, beq_iff_eq, decide_eq_true_eq, or_assoc]
  rfl

theorem finalsSatisfied_false_iff {r : OccRecord} :
    r.finalsSatisfied = false ↔ r.outstanding ≠ 0 ∧ r.finalsForced = false ∧ r.deadline < 8 := by
  rw [← Bool.not_eq_true, finalsSatisfied_iff, not_or, not_or, Bool.not_eq_true, Nat.not_le]

section Decision

variable {b : Time} {snap : Occupancy} {held : Bool} {r : OccRecord}

/-- An OPENING slot with its readings in, or at its deadline, becomes OCCUPIED (R108). -/
theorem decideSlot_opens (hr : r.state = .opening)
    (h : r.outstanding = 0 ∨ 8 ≤ (advanceDeadline snap r).deadline) : decideSlot b snap held r = { r with
      state := .occupied, openedAt := b, deadline := 0, outstanding := 0
      openedOnEstimate := r.openedOnEstimate || r.outstanding != 0 } := by
  unfold decideSlot
  dsimp only
  rw [advanceDeadline_state, hr]
  dsimp only
  rw [advanceDeadline_outstanding]
  rw [advanceDeadline_eq] at h ⊢
  by_cases hout : r.outstanding = 0
  · rw [if_pos hout, hout, bne_self_eq_false, Bool.or_false]
  · rw [if_neg hout, bne_iff_ne.mpr hout, Bool.or_true]
    exact if_pos (h.resolve_left hout)

theorem decideSlot_staysOpening (hr : r.state = .opening) (hout : r.outstanding ≠ 0)
    (hd : (advanceDeadline snap r).deadline < 8) : decideSlot b snap held r = advanceDeadline snap r := by
  unfold decideSlot
  dsimp only
  rw [advanceDeadline_state, hr]
  dsimp only
  rw [advanceDeadline_outstanding, if_neg hout]
  exact if_neg (Nat.not_le.mpr hd)

/-- A CLOSING slot with its finals satisfied and no snapshot held becomes CLOSED (R109). -/
theorem decideSlot_closes (hr : r.state = .closing) (h : (advanceDeadline snap r).finalsSatisfied = true) :
    decideSlot b snap false r = { r with state := .closed, deadline := 0, outstanding := 0 } := by
  unfold decideSlot
  dsimp only
  rw [advanceDeadline_state, hr, h]
  exact congrArg (fun x : OccRecord => { x with state := .closed, deadline := 0, outstanding := 0 })
    (advanceDeadline_eq snap r)

theorem decideSlot_staysClosing (hr : r.state = .closing)
    (h : ((advanceDeadline snap r).finalsSatisfied && !held) = false) :
    decideSlot b snap held r = advanceDeadline snap r := by
  unfold decideSlot
  dsimp only
  rw [advanceDeadline_state, hr, h]
  rfl

theorem advanceDeadline_settled (ho : r.state ≠ .opening) (hc : r.state ≠ .closing) : advanceDeadline snap r = r := by
  rw [advanceDeadline_eq, if_neg]
  rintro ⟨h, _⟩
  exact h.elim ho hc

theorem decideSlot_settled (ho : r.state ≠ .opening) (hc : r.state ≠ .closing) : decideSlot b snap held r = r := by
  unfold decideSlot
  rw [advanceDeadline_settled ho hc]
  dsimp only
  cases hr : r.state with
  | opening => exact absurd hr ho
  | closing => exact absurd hr hc
  | vacant => rfl
  | occupied => rfl
  | closed => rfl

/-- A slot changes its state at a boundary from OPENING to OCCUPIED or from CLOSING to CLOSED alone. -/
theorem decideSlot_state : (decideSlot b snap held r).state = r.state ∨
    (r.state = .opening ∧ (decideSlot b snap held r).state = .occupied) ∨
    (r.state = .closing ∧ (decideSlot b snap held r).state = .closed) := by
  by_cases ho : r.state = .opening
  · by_cases h : r.outstanding = 0 ∨ 8 ≤ (advanceDeadline snap r).deadline
    · rw [decideSlot_opens ho h]
      exact .inr (.inl ⟨ho, rfl⟩)
    · rw [not_or, Nat.not_le] at h
      rw [decideSlot_staysOpening ho h.1 h.2]
      exact .inl (advanceDeadline_state snap r)
  · by_cases hc : r.state = .closing
    · cases h : (advanceDeadline snap r).finalsSatisfied && !held with
      | true =>
        rw [Bool.and_eq_true, Bool.not_eq_true'] at h
        obtain ⟨hsat, hheld⟩ := h
        rw [hheld, decideSlot_closes hc hsat]
        exact .inr (.inr ⟨hc, rfl⟩)
      | false =>
        rw [decideSlot_staysClosing hc h]
        exact .inl (advanceDeadline_state snap r)
    · rw [decideSlot_settled ho hc]
      exact .inl rfl

/-- A slot that is CLOSING after the decision has had its deadline count advanced and nothing else. -/
theorem decideSlot_closing (h : (decideSlot b snap held r).state = .closing) :
    r.state = .closing ∧ decideSlot b snap held r = advanceDeadline snap r := by
  have hr : r.state = .closing := by
    rcases decideSlot_state (b := b) (snap := snap) (held := held) (r := r) with hs | ⟨_, hs⟩ | ⟨hr, _⟩
    · exact hs.symm.trans h
    · cases hs.symm.trans h
    · exact hr
  refine ⟨hr, decideSlot_staysClosing hr (Bool.eq_false_iff.mpr fun hsat => ?_)⟩
  rw [Bool.and_eq_true, Bool.not_eq_true'] at hsat
  obtain ⟨hsat, hheld⟩ := hsat
  rw [hheld, decideSlot_closes hr hsat] at h
  cases h

/-- UNIT_AWAITING: a slot is CLOSING still, with its finals unsatisfied (R109). -/
theorem awaitsFinals_iff : awaitsFinals snap r = true ↔ (decideSlot b snap held r).state = .closing ∧
    (decideSlot b snap held r).outstanding ≠ 0 ∧ (decideSlot b snap held r).finalsForced = false ∧
    (decideSlot b snap held r).deadline < 8 := by
  rw [← finalsSatisfied_false_iff, awaitsFinals, Bool.and_eq_true, beq_iff_eq, Bool.not_eq_true']
  constructor
  · rintro ⟨hstate, hsat⟩
    have hr : r.state = .closing := (advanceDeadline_state snap r).symm.trans hstate
    rw [decideSlot_staysClosing hr (by rw [hsat, Bool.false_and])]
    exact ⟨hstate, hsat⟩
  · rintro ⟨hstate, hsat⟩
    obtain ⟨_, hsame⟩ := decideSlot_closing hstate
    rw [hsame] at hstate hsat
    exact ⟨hstate, hsat⟩

end Decision

/-! ## Stage 6 -/

theorem execStage_occupancy {s : State} {c : Close} (hc : s.close = some c) (hn : c.next = .occupancy) :
    exec .stageOccupancy s = .next (stageOccupancy c s) := by
  rw [show exec .stageOccupancy s = .next (runStage .occupancy s) from rfl, runStage_due hc hn]
  rfl

theorem occupancyDecided_occ (c : Close) (s : State) : (occupancyDecided c s).occ = decideAll c s := by
  unfold occupancyDecided
  rfl

theorem occupancyDecided_causeSet (c : Close) (s : State) (x : Cause) :
    (occupancyDecided c s).causeSet x = s.causeSet x := by
  unfold occupancyDecided State.causeSet
  rfl

/-- Stage 6 but for its tables, beside channel P's new work. -/
theorem occupancyRaised_frame (c : Close) (s : State) : occupancyRaised c s = { s with
    occ := decideAll c s, snapshots := (occupancyDecided c s).snapshots, accounts := (occupancyDecided c s).accounts
    status := { s.status with causes := (occupancyRaised c s).status.causes }
    close := some { c with next := .period, finalTaken := Vector.ofFn (closesNow c s) } } := by
  have hraise : ∀ (p : Bool) (x : Cause) (t : State), raiseIf p x t = { t with
      status := { t.status with causes := (raiseIf p x t).status.causes } } := fun p x t => by cases p <;> rfl
  unfold occupancyRaised
  rw [hraise _ .unitAwaiting, hraise _ .unitChanged]
  unfold occupancyDecided
  rfl

/-- Where stage 6 has closed a slot channel P has been handed its work. -/
theorem stageOccupancy_cases (c : Close) (s : State) :
    (stageOccupancy c s = occupancyRaised c s ∧ ∀ u, closesNow c s u = false) ∨
      stageOccupancy c s = handWork .p (occupancyRaised c s) := by
  rw [stageOccupancy_eq]
  split
  · exact .inr rfl
  · next hno => exact .inl ⟨rfl, fun u => Bool.eq_false_iff.mpr fun hu => hno (anyCloses_iff.mpr ⟨u, hu⟩)⟩

theorem stageOccupancy_frame_out (c : Close) (s : State) : stageOccupancy c s = { s with
    occ := decideAll c s, snapshots := (occupancyDecided c s).snapshots, accounts := (occupancyDecided c s).accounts
    out := { s.out with
      chanI := (stageOccupancy c s).out.chanI, chanP := (stageOccupancy c s).out.chanP
      lastActive := (stageOccupancy c s).out.lastActive, record := (stageOccupancy c s).out.record }
    status := { s.status with causes := (stageOccupancy c s).status.causes }
    close := some { c with next := .period, finalTaken := Vector.ofFn (closesNow c s) } } := by
  rcases stageOccupancy_cases c s with ⟨h, _⟩ | h
  · rw [h]
    have hframe := occupancyRaised_frame c s
    have hout : (occupancyRaised c s).out = s.out := by rw [hframe]
    rw [hout]
    exact hframe
  · rw [h, handWork_eq .p (occupancyRaised c s), occupancyRaised_frame c s]

theorem stageOccupancy_causeSet (c : Close) (s : State) {x : Cause} (hx : x ≠ .ringFull) :
    (stageOccupancy c s).causeSet x = (occupancyRaised c s).causeSet x := by
  rcases stageOccupancy_cases c s with ⟨h, _⟩ | h
  · rw [h]
  · rw [h, handWork_causeSet .p _ hx]

/-- The causes that stage 6 raises (R62, R109). -/
theorem occupancyRaised_causeSet (c : Close) (s : State) (x : Cause) : (occupancyRaised c s).causeSet x =
    (s.causeSet x || (((List.finRange 256).any fun u => closesNow c s u || opensNow c s u) && x == .unitChanged) ||
      (((List.finRange 256).any fun u : UnitId => u != 0 && awaitsFinals c.occ[u] s.occ[u]) && x == .unitAwaiting)) := by
  unfold occupancyRaised
  rw [causeSet_raiseIf, causeSet_raiseIf, occupancyDecided_causeSet]

theorem closesNow_iff {c : Close} {s : State} {u : UnitId} :
    closesNow c s u = true ↔ s.occ[u].state = .closing ∧ (decideAll c s)[u].state = .closed := by
  rw [closesNow, Bool.and_eq_true, beq_iff_eq, beq_iff_eq]

theorem opensNow_iff {c : Close} {s : State} {u : UnitId} :
    opensNow c s u = true ↔ s.occ[u].state = .opening ∧ (decideAll c s)[u].state = .occupied := by
  rw [opensNow, Bool.and_eq_true, beq_iff_eq, beq_iff_eq]

/-- A slot that stage 6 moves closes or opens now. -/
theorem decideAll_moves {c : Close} {s : State} {u : UnitId} :
    (decideAll c s)[u].state ≠ s.occ[u].state ↔ closesNow c s u = true ∨ opensNow c s u = true := by
  rw [closesNow_iff, opensNow_iff]
  constructor
  · intro hmoved
    rw [decideAll_get] at hmoved ⊢
    split at hmoved
    · exact absurd rfl hmoved
    · next hu =>
      rw [if_neg hu]
      rcases decideSlot_state with hs | hs | hs
      · exact absurd hs hmoved
      · exact .inr hs
      · exact .inl hs
  · rintro (⟨hfrom, hto⟩ | ⟨hfrom, hto⟩)
    · rw [hfrom, hto]
      exact nofun
    · rw [hfrom, hto]
      exact nofun

theorem stageOccupancy_unitChanged (c : Close) (s : State) : (stageOccupancy c s).causeSet .unitChanged = true ↔
    s.causeSet .unitChanged = true ∨ ∃ u : UnitId, (decideAll c s)[u].state ≠ s.occ[u].state := by
  rw [stageOccupancy_causeSet c s (x := .unitChanged) nofun, occupancyRaised_causeSet, beq_self_eq_true, Bool.and_true,
    beq_false_of_ne (a := Cause.unitChanged) (b := .unitAwaiting) nofun, Bool.and_false, Bool.or_false, Bool.or_eq_true,
    List.any_eq_true]
  refine or_congr .rfl (exists_congr fun u => ?_)
  rw [decideAll_moves, Bool.or_eq_true]
  exact and_iff_right (List.mem_finRange u)

theorem stageOccupancy_unitAwaiting (c : Close) (s : State) : (stageOccupancy c s).causeSet .unitAwaiting = true ↔
    s.causeSet .unitAwaiting = true ∨ ∃ u : UnitId, u ≠ 0 ∧ (decideAll c s)[u].state = .closing ∧
      (decideAll c s)[u].outstanding ≠ 0 ∧ (decideAll c s)[u].finalsForced = false ∧
      (decideAll c s)[u].deadline < 8 := by
  rw [stageOccupancy_causeSet c s (x := .unitAwaiting) nofun, occupancyRaised_causeSet, beq_self_eq_true, Bool.and_true,
    beq_false_of_ne (a := Cause.unitAwaiting) (b := .unitChanged) nofun, Bool.and_false, Bool.or_false, Bool.or_eq_true,
    List.any_eq_true]
  refine or_congr .rfl (exists_congr fun u => ?_)
  rw [and_iff_right (List.mem_finRange u), Bool.and_eq_true, bne_iff_ne]
  refine and_congr_right fun hu => ?_
  rw [decideAll_get, if_neg hu]
  exact awaitsFinals_iff

/-- The tables of stage 6 for a slot that does not close now. -/
theorem occupancyDecided_kept {c : Close} {s : State} {u : UnitId} (h : closesNow c s u = false) :
    (occupancyDecided c s).snapshots[u] = s.snapshots[u] ∧ (occupancyDecided c s).accounts[u] = s.accounts[u] := by
  refine ⟨?_, ?_⟩
  · rw [occupancyDecided_snapshot, if_neg (by rw [h]; decide)]
  · refine clearPeriods_kept_all ?_
    rw [getElem_ofFn_fin, h]

/-- The tables of stage 6 for a slot that closes now: its FINAL snapshot, its period figures returned to 0 (R63). -/
theorem occupancyDecided_closed {c : Close} {s : State} {u : UnitId} (h : closesNow c s u = true) :
    (occupancyDecided c s).snapshots[u] = some (statementOf s u c.boundary true false) ∧
      ∀ m : Medium, ((occupancyDecided c s).accounts[u]).get m = (s.accounts[u].get m).clearPeriod := by
  refine ⟨?_, fun m => ?_⟩
  · rw [occupancyDecided_snapshot, if_pos h]
  · refine clearPeriods_cleared ?_ m
    rw [getElem_ofFn_fin, h]

/-- A slot that is not CLOSED after the decision does not close now. -/
theorem closesNow_of_ne {c : Close} {s : State} {u : UnitId} (h : (decideAll c s)[u].state ≠ .closed) :
    closesNow c s u = false := Bool.eq_false_iff.mpr fun hclose => h (closesNow_iff.mp hclose).2

/-- Settles O27: the causes and channel P's work from the decisions, each slot by its state and its finals. -/
theorem stageOccupancyDecides : Obligations.StageOccupancyDecides := by
  intro s c hc hn
  refine ⟨_, execStage_occupancy hc hn, ?_⟩
  have hframe := stageOccupancy_frame_out c s
  have hocc : (stageOccupancy c s).occ = decideAll c s := by rw [hframe]
  have hsnap : (stageOccupancy c s).snapshots = (occupancyDecided c s).snapshots := by rw [hframe]
  have hacc : (stageOccupancy c s).accounts = (occupancyDecided c s).accounts := by rw [hframe]
  have hclose : (stageOccupancy c s).close =
      some { c with next := .period, finalTaken := Vector.ofFn (closesNow c s) } := by rw [hframe]
  have hlandlord : (decideAll c s)[(0 : UnitId)] = s.occ[(0 : UnitId)] := by rw [decideAll_get, if_pos rfl]
  rw [hocc, hsnap, hacc, hclose]
  refine ⟨hframe, fun x hchanged hawaiting hring => ?_, ⟨_, rfl, fun u => ⟨?_, fun htaken => ?_⟩⟩, hlandlord, ?_,
    stageOccupancy_unitChanged c s, stageOccupancy_unitAwaiting c s, fun u r d hu hr hd => ?_⟩
  · rw [stageOccupancy_causeSet c s hring, occupancyRaised_causeSet, beq_false_of_ne hchanged,
      beq_false_of_ne hawaiting, Bool.and_false, Bool.and_false, Bool.or_false, Bool.or_false]
  · rw [getElem_ofFn_fin]
    exact closesNow_iff
  · rw [getElem_ofFn_fin] at htaken
    rcases stageOccupancy_cases c s with ⟨_, hno⟩ | h
    · rw [hno u] at htaken
      cases htaken
    · rw [h]
      exact handWork_notIdle .p _
  · refine (occupancyDecided_kept (Bool.eq_false_iff.mpr fun hcloses => ?_)).1
    obtain ⟨hfrom, hto⟩ := closesNow_iff.mp hcloses
    rw [hlandlord, hfrom] at hto
    cases hto
  · have hdecided : (decideAll c s)[u] = decideSlot c.boundary c.occ[u] s.snapshots[u].isSome r := by
      rw [decideAll_get, if_neg hu, ← hr]
    have hadvanced : advanceDeadline c.occ[u] r = { r with deadline := d } := by rw [hd, advanceDeadline_eq]
    have hdeadline : (advanceDeadline c.occ[u] r).deadline = d := by rw [hadvanced]
    have hkept : (decideAll c s)[u].state ≠ .closed → (occupancyDecided c s).snapshots[u] = s.snapshots[u] ∧
        (occupancyDecided c s).accounts[u] = s.accounts[u] := fun hne => occupancyDecided_kept (closesNow_of_ne hne)
    refine ⟨fun hstate h => ?_, fun hstate hout hlt => ?_, fun hstate hsat hnone => ?_, fun hstate hno => ?_,
      fun hopening hclosing => ?_⟩
    · have hopens := hdecided.trans (decideSlot_opens hstate (by rw [hdeadline]; exact h))
      exact ⟨hopens, hkept (by rw [hopens]; exact nofun)⟩
    · have hstays := hdecided.trans (decideSlot_staysOpening hstate hout (by rw [hdeadline]; exact hlt))
      refine ⟨hstays.trans hadvanced, hkept ?_⟩
      rw [hstays, advanceDeadline_state, hstate]
      exact nofun
    · have hfinals : (advanceDeadline c.occ[u] r).finalsSatisfied = true := by
        rw [finalsSatisfied_iff, hadvanced]
        exact hsat
      have hcloses : (decideAll c s)[u] = { r with state := .closed, deadline := 0, outstanding := 0 } := by
        rw [hdecided, hnone]
        exact decideSlot_closes hstate hfinals
      obtain ⟨hstatement, hcleared⟩ := occupancyDecided_closed (c := c) (s := s) (u := u)
        (closesNow_iff.mpr ⟨by rw [← hr]; exact hstate, by rw [hcloses]⟩)
      refine ⟨hcloses, hstatement.trans ?_, hcleared⟩
      rw [statementOf_eq, hr]
    · have hstays : (decideAll c s)[u] = advanceDeadline c.occ[u] r := by
        rw [hdecided]
        refine decideSlot_staysClosing hstate (Bool.eq_false_iff.mpr fun hboth => hno ?_)
        rw [Bool.and_eq_true, finalsSatisfied_iff, hadvanced, Bool.not_eq_true', Option.isSome_eq_false_iff,
          Option.isNone_iff_eq_none] at hboth
        exact hboth
      refine ⟨hstays.trans hadvanced, hkept ?_⟩
      rw [hstays, advanceDeadline_state, hstate]
      exact nofun
    · have hstays := hdecided.trans (decideSlot_settled hopening hclosing)
      by_cases hclosed : r.state = .closed
      · refine ⟨hstays, occupancyDecided_kept (Bool.eq_false_iff.mpr fun hcloses => ?_)⟩
        obtain ⟨hfrom, _⟩ := closesNow_iff.mp hcloses
        rw [← hr, hclosed] at hfrom
        cases hfrom
      · exact ⟨hstays, hkept (by rw [hstays]; exact hclosed)⟩

end Sys2Proof.Machine
end

section
/-! SUPPORT. A record written in two bursts (O45; R135, R136, R138): the channel that is chosen, the item and words of
its record, and the bursts the engine requests. -/

namespace Sys2Proof.Machine

/-! ## The channel that is chosen (R136) -/

/-- Of two PENDING channels the free engine starts the one other than the channel ACTIVE last, of one that one. -/
theorem choose_next {s : State} {c : Channel} (hfree : s.out.active = none) (hroom : s.out.u < 2048)
    (hc : (s.out.chan c).state = .pending)
    (hlast : (s.out.chan c.other).state = .pending → s.out.lastActive = c.other) : choose s = activate c s := by
  have hidle : ¬ s.out.active.isSome = true := by rw [hfree]; decide
  unfold choose
  rw [if_neg hidle]
  refine (if_pos hroom).trans ?_
  cases c with
  | i =>
    have hi : s.out.chanI.state = .pending := hc
    rw [if_pos hi]
    split
    · next hp =>
      have hlastP : s.out.lastActive = .p := hlast hp
      rw [hlastP]
      rfl
    · rfl
  | p =>
    have hp : s.out.chanP.state = .pending := hc
    split
    · next hi =>
      have hlastI : s.out.lastActive = .i := hlast hi
      rw [hlastI]
      rfl
    · rfl

theorem activate_eq (c : Channel) (s : State) : activate c s = { s with out := { s.out with
    chanI := (activate c s).out.chanI, chanP := (activate c s).out.chanP, lastActive := c
    record := (nextItem s c).map (formRecord s) } } := by cases c <;> rfl

theorem activate_chan (c : Channel) (s : State) :
    (activate c s).out.chan c = { s.out.chan c with state := .active } := by cases c <;> rfl

theorem activate_record {s : State} {c : Channel} {it : Item} (h : nextItem s c = some it) :
    (activate c s).out.record = some { item := it, words := recordWords s it, step := .waiting } := by
  rw [activate_eq, h]
  rfl

/-! ## The item that is next (R135) -/

theorem nextItem_i {s : State} (h : s.out.holding ≠ []) : nextItem s .i = some .summary := by
  simp [nextItem, h]

theorem nextItem_trailer {s : State} (h : s.period.trailer ≠ none) (hno : s.markHeld = false) :
    nextItem s .p = some .trailer := by
  unfold nextItem
  dsimp only
  rw [hno, Option.isSome_iff_ne_none.mpr h]
  rfl

theorem nextItem_statement {s : State} {u : UnitId} (h : s.period.trailer = none ∨ s.markHeld = true)
    (hu : s.snapshots[u] ≠ none) (hlow : ∀ v : UnitId, v < u → s.snapshots[v] = none) :
    nextItem s .p = some (.statement u) := by
  have hfind : (List.finRange 256).find? (fun v : UnitId => s.snapshots[v].isSome) = some u :=
    find?_finRange_eq_some (Option.isSome_iff_ne_none.mpr hu) fun v hv => by rw [hlow v hv]; rfl
  have hno : ¬ (s.period.trailer.isSome && !s.markHeld) = true := by
    rcases h with h | h <;> simp [h]
  unfold nextItem
  dsimp only
  rw [if_neg hno, hfind]
  rfl

theorem markHeld_false_iff {s : State} :
    s.markHeld = false ↔ ∀ (u : UnitId) (x : Statement), s.snapshots[u] = some x → x.mark = false := by
  rw [← Bool.not_eq_true, State.markHeld_iff]
  constructor
  · intro h u x hx
    exact Bool.eq_false_iff.mpr fun hmark => h ⟨u, x, hx, hmark⟩
  · rintro h ⟨u, x, hx, hmark⟩
    rw [h u x hx] at hmark
    cases hmark

/-! ## The bursts (R138) -/

theorem burst_first {s : State} {base : Nat} (h : slotAddr s.pins.anchor s.out.w = base) (words : List Word) :
    burst s.pins.anchor s.out.w words false =
      { addr := BitVec.ofNat 24 base, len := .w8, data := words.take 8, enables := List.replicate 8 15 } := by
  unfold burst
  rw [if_neg (by decide), if_neg (by decide), h, Nat.add_zero]

theorem burst_second {s : State} {base : Nat} (h : slotAddr s.pins.anchor s.out.w = base) (words : List Word) :
    burst s.pins.anchor s.out.w words true =
      { addr := BitVec.ofNat 24 (base + 32), len := .w8, data := (words.drop 8).take 8
        enables := List.replicate 8 15 } := by
  unfold burst
  rw [if_pos rfl, if_pos rfl, h]

/-! ## RECORD_START (R138) -/

theorem slotAddr_eq (s : State) :
    slotAddr s.pins.anchor s.out.w = s.pins.anchor.toNat * 2097152 + 0x20000 + 64 * s.out.w.toNat := rfl

/-- An entry of the buffer overlaps slot W. -/
theorem bufferCovers_slot {s : State} {base : Nat} : s.bufferCovers base 64 = true ↔
    ∃ w ∈ s.link.posted, w.addr.toNat < base + 64 ∧ base < w.addr.toNat + 4 * w.len.words := by
  simp only [State.bufferCovers, List.any_eq_true, covers, spansMeet, Bool.and_eq_true, decide_eq_true_eq]

theorem recordStart_waits {s : State} (h : s.bufferCovers (slotAddr s.pins.anchor s.out.w) 64 = true) :
    exec .recordStart s = .next s := by
  have hno : s.recordReady = false := by
    unfold State.recordReady
    split
    · rw [h, Bool.not_true, Bool.and_false]
    · rfl
  show execRecordStart s = _
  rw [execRecordStart, hno]
  rfl

theorem recordStart_starts {s : State} {r : Record} (hr : s.out.record = some r) (hstep : r.step = .waiting)
    (hactive : s.out.active ≠ none) (h : s.bufferCovers (slotAddr s.pins.anchor s.out.w) 64 = false) :
    exec .recordStart s = .next (grant (requestWriteOut (advanceRecord .first s))) := by
  have hready : s.recordReady = true := by
    unfold State.recordReady
    rw [hr]
    dsimp only
    rw [hstep, h, Option.isSome_iff_ne_none.mpr hactive]
    rfl
  show execRecordStart s = _
  rw [execRecordStart, if_pos hready]

/-- The record at its step, and the engine's request. -/
theorem advanceRecord_eq {s : State} {r : Record} (hr : s.out.record = some r) (st : RecordStep) :
    advanceRecord st s = { s with out := { s.out with record := some { r with step := st } } } := by
  unfold advanceRecord
  rw [hr]
  rfl

/-- A free port goes to the engine, the one requester, for the first burst. -/
theorem recordStart_grants {s : State} {r : Record} (hr : s.out.record = some r) (hinv : LinkInv s)
    (hport : s.link.port = none) : (grant (requestWriteOut (advanceRecord .first s))).link.port =
      some (.firstBurst (burst s.pins.anchor s.out.w r.words false)) := by
  rw [advanceRecord_eq hr]
  refine grant_sole (r := .writeOut) hport ?_ rfl fun x hx => ?_
  · exact hinv.order.mem_iff.mpr (by decide)
  · have hfree := hinv.granted hport x
    cases x with
    | drain => exact hfree
    | read => exact hfree
    | writeOut => exact absurd rfl hx

/-! ## FIRST_BURST_ACCEPTED (R138) -/

theorem firstBurst_accepted {s : State} {w : WriteTxn} (h : s.link.port = some (.firstBurst w)) :
    exec .firstBurstAccepted s = .next (grant (freePort (requestWriteOut (advanceRecord .second s)))) := by
  show execFirstBurstAccepted s = _
  rw [execFirstBurstAccepted, h]

/-- The second burst is at the port, or is requested. -/
theorem grant_secondBurst {s : State} {r : Record} (hreq : s.link.reqWriteOut = true) (hr : s.out.record = some r)
    (hstep : r.step = .second) : (grant s).link.reqWriteOut = true ∨ (grant s).link.port =
      some (.secondBurst (burst s.pins.anchor s.out.w r.words true)) := by
  rcases grant_cases s with ⟨hsame, _⟩ | ⟨x, hport, hfind⟩
  · rw [hsame]
    exact .inl hreq
  · rw [grant_given hport hfind]
    cases x with
    | drain => exact .inl hreq
    | read => exact .inl hreq
    | writeOut =>
      refine .inr ?_
      show accessFor s .writeOut = _
      rw [accessFor, hr]
      dsimp only
      rw [hstep]

theorem grant_state (s : State) : grant s = { s with link := (grant s).link } := by
  obtain ⟨_, h⟩ := grant_frame s
  rw [h]

/-- Settles O45: the channel chosen and its record, then each of its two bursts. -/
theorem recordIsWrittenInTwoBursts : Obligations.RecordIsWrittenInTwoBursts := by
  refine ⟨fun s c hfree hroom hc hlast => ?_, fun s r base hr hbase => ⟨fun hcovered => ?_,
    fun hstep hactive hclear => ?_, fun w hport => ?_⟩⟩
  · rw [choose_next hfree hroom hc hlast]
    refine ⟨activate_eq c s, activate_chan c s, activate_chan_other c s, fun hi hne => ?_,
      fun hp htrailer hnomark => ?_, fun u hp hu hlow hmark => ?_⟩
    · subst hi
      exact activate_record (nextItem_i hne)
    · subst hp
      exact activate_record (nextItem_trailer htrailer (markHeld_false_iff.mpr hnomark))
    · subst hp
      exact activate_record (nextItem_statement (hmark.imp_right State.markHeld_iff.mpr) hu hlow)
  · refine recordStart_waits ?_
    rw [slotAddr_eq, ← hbase]
    exact bufferCovers_slot.mpr hcovered
  · have hno : s.bufferCovers (slotAddr s.pins.anchor s.out.w) 64 = false := by
      rw [slotAddr_eq, ← hbase, ← Bool.not_eq_true, bufferCovers_slot]
      rintro ⟨w, hw, hlow, hhigh⟩
      rcases hclear w hw with h | h <;> omega
    refine ⟨_, recordStart_starts hr hstep hactive hno, ?_, grant_arbitrated _, fun a ha => ?_, fun hinv hnone => ?_⟩
    · rw [grant_state, advanceRecord_eq hr]
      rfl
    · rw [grant_taken (s := requestWriteOut (advanceRecord .first s)) ha]
      rfl
    · rw [recordStart_grants hr hinv hnone, burst_first (hbase ▸ slotAddr_eq s)]
  · refine ⟨_, firstBurst_accepted hport, ?_, ?_, grant_arbitrated _⟩
    · rw [grant_state, advanceRecord_eq hr]
      rfl
    · rw [← burst_second (hbase ▸ slotAddr_eq s), advanceRecord_eq hr]
      exact grant_secondBurst (r := { r with step := .second }) rfl rfl rfl

end Sys2Proof.Machine
end

section
/-! SUPPORT. Records that end unwritten (O12, O47; R142, R143, R163, R164): the burst that fails and the BRST that cancels,
the item kept for its rewrite, and the channel that goes next. -/

namespace Sys2Proof.Machine

/-! ## The channel that goes next -/

section Next

variable {s : State} {c : Channel} (hidle : (s.out.chan c).state = .idle)
  (hother : (s.out.chan c.other).state ≠ .active) (hroom : s.out.u < 2048)
include hidle hother hroom

/-- With one channel IDLE and the other not ACTIVE, the other starts where it is PENDING. -/
theorem choose_other_cases : ((s.out.chan c.other).state = .pending ∧ choose s = activate c.other s) ∨
    ((s.out.chan c.other).state ≠ .pending ∧ choose s = s) := by
  have hfree : ∀ d, (s.out.chan d).state ≠ .active := by
    rw [Channel.forall_iff c, hidle]
    exact ⟨nofun, hother⟩
  by_cases hp : (s.out.chan c.other).state = .pending
  · refine .inl ⟨hp, choose_next (WriteOut.active_none_iff.mpr hfree) hroom hp fun hc => ?_⟩
    rw [Channel.other_other, hidle] at hc
    cases hc
  · refine .inr ⟨hp, ?_⟩
    rcases choose_cases hfree with ⟨_, _, h⟩ | ⟨_, d, hd, _⟩ | ⟨hfull, _⟩
    · exact h
    · rcases d.eq_or_other c with rfl | rfl
      · rw [hidle] at hd
        cases hd
      · exact absurd hd hp
    · omega

theorem choose_other_chan : (choose s).out.chan c = s.out.chan c ∧ (choose s).out.chan c.other =
    { s.out.chan c.other with
      state := if (s.out.chan c.other).state = .pending then .active else (s.out.chan c.other).state } := by
  rcases choose_other_cases hidle hother hroom with ⟨hp, h⟩ | ⟨hp, h⟩
  · rw [h, if_pos hp]
    exact ⟨by cases c <;> rfl, activate_chan c.other s⟩
  · rw [h, if_neg hp]
    exact ⟨rfl, rfl⟩

theorem choose_other_last : (choose s).out.lastActive =
    if (s.out.chan c.other).state = .pending then c.other else s.out.lastActive := by
  rcases choose_other_cases hidle hother hroom with ⟨hp, h⟩ | ⟨hp, h⟩
  · rw [h, if_pos hp]
    rfl
  · rw [h, if_neg hp]

theorem choose_other_record (hp : (s.out.chan c.other).state ≠ .pending) : (choose s).out.record = s.out.record := by
  rcases choose_other_cases hidle hother hroom with ⟨hpending, _⟩ | ⟨_, h⟩
  · exact absurd hpending hp
  · rw [h]

end Next

/-! ## An abandoned record -/

/-- The other channel of the one that is ACTIVE is not. -/
theorem WriteOutInv.other_inactive {s : State} (h : WriteOutInv s) {c : Channel} (hc : s.out.active = some c) :
    (s.out.chan c.other).state ≠ .active := by
  intro hother
  have hactive := WriteOut.active_some hc
  cases c
  · exact h.oneActive ⟨hactive, hother⟩
  · exact h.oneActive ⟨hother, hactive⟩

theorem abandonRecord_eq (c : Channel) (o : ChannelOutcome) (s : State) : abandonRecord c o s = { s with
    snapshots := (keepItem s).snapshots
    out := { s.out.setChan c { state := .idle, outcome := o } with record := none } } := by
  obtain ⟨_, h⟩ := keepItem_frame s
  unfold abandonRecord
  rw [h]

/-- The engine after an abandoned record: W, U and the rest stand, one channel is IDLE and the other as it was. -/
theorem abandonRecord_out (c : Channel) (o : ChannelOutcome) (s : State) :
    (abandonRecord c o s).out = { s.out with
      chanI := (abandonRecord c o s).out.chanI, chanP := (abandonRecord c o s).out.chanP, record := none } ∧
    (abandonRecord c o s).out.chan c = { state := .idle, outcome := o } ∧
    (abandonRecord c o s).out.chan c.other = s.out.chan c.other := by
  rw [abandonRecord_eq]
  cases c <;> exact ⟨rfl, rfl, rfl⟩

/-! ## RECORD_ABANDONED (R142) -/

/-- The state in which the engine chooses after a failed burst (R142). -/
def burstFailed (c : Channel) (s : State) : State := raise .writeoutFault (abandonRecord c .terminatedMemory s)

theorem failRecord_eq {s : State} {c : Channel} (hc : s.out.active = some c) :
    failRecord s = choose (burstFailed c s) := by
  rw [failRecord, hc]
  rfl

theorem burstFailed_out (c : Channel) (s : State) :
    (burstFailed c s).out = (abandonRecord c .terminatedMemory s).out := rfl

/-- Where the engine has room to choose, what it makes of an abandoned record. -/
theorem choose_abandoned {s b : State} {c : Channel} {o : ChannelOutcome} (h : WriteOutInv s)
    (hc : s.out.active = some c) (hb : b.out = (abandonRecord c o s).out) :
    choose b = { b with out := { s.out with
      chanI := (choose b).out.chanI, chanP := (choose b).out.chanP, lastActive := (choose b).out.lastActive
      record := (choose b).out.record } } ∧
    (choose b).out.chan c = { state := .idle, outcome := o } ∧
    (choose b).out.chan c.other = { s.out.chan c.other with
      state := if (s.out.chan c.other).state = .pending then .active else (s.out.chan c.other).state } ∧
    (choose b).out.lastActive =
      (if (s.out.chan c.other).state = .pending then c.other else s.out.lastActive) ∧
    ((s.out.chan c.other).state ≠ .pending → (choose b).out.record = none) := by
  obtain ⟨hout, hsame, hkept⟩ := abandonRecord_out c o s
  rw [← hb] at hout hsame hkept
  have hroom : b.out.u < 2048 := by
    rw [hout]
    exact h.activeRoom c (WriteOut.active_some hc)
  have hidle : (b.out.chan c).state = .idle := by rw [hsame]
  have hother : (b.out.chan c.other).state ≠ .active := by
    rw [hkept]
    exact h.other_inactive hc
  obtain ⟨hchan, hnext⟩ := choose_other_chan hidle hother hroom
  refine ⟨?_, hchan.trans hsame, ?_, ?_, fun hp => ?_⟩
  · refine (choose_room hroom).trans (congrArg (fun x => { b with out := x }) ?_)
    rw [choose_out, hout]
  · rw [hnext, hkept]
  · rw [choose_other_last hidle hother hroom, hkept, hout]
  · rw [choose_other_record hidle hother hroom (hkept ▸ hp), hout]

/-- A summary's words depend on the queue and the sequence number alone, a trailer's on its figures and it. -/
theorem recordWords_congr {s t : State} (hh : t.out.holding = s.out.holding) (hseq : t.out.seq = s.out.seq)
    (hp : t.period = s.period) :
    recordWords t .summary = recordWords s .summary ∧ recordWords t .trailer = recordWords s .trailer := by
  simp only [recordWords, hh, hseq, hp, and_self]

/-- A statement whose record has been abandoned keeps its words for the rewrite, marked since or not (R142, R184). -/
theorem ItemKept.rewrite {s : State} {snaps : Vector (Option Statement) 256} (h : ItemKept s snaps) {r : Record}
    {u : UnitId} {e : State} {x : Statement} (hr : s.out.record = some r) (hitem : r.item = .statement u)
    (hx : snaps[u] = some x) (he : e.snapshots[u] = some x ∨ e.snapshots[u] = some { x with mark := true }) :
    recordWords e (.statement u) = r.words.set 1 e.out.seq := by
  have hkept := (h u).1 r hr hitem
  rw [hx] at hkept
  have hformed : x.formed = some r.words := by
    cases hs : s.snapshots[u] with
    | none =>
      rw [hs] at hkept
      cases hkept
    | some y =>
      rw [hs] at hkept
      cases hkept
      rfl
  rcases he with he | he
  · exact recordWords_again he hformed
  · exact recordWords_again he hformed

/-- Settles O47, from the abandoned record and what the engine makes of it. -/
theorem recordAbandonedKeepsItsItem : Obligations.RecordAbandonedKeepsItsItem := by
  intro s w c hinv hport hc
  refine ⟨_, execRecord_abandoned hport, ?_⟩
  have harb := grant_failRecord_arbitrated s
  rw [failRecord_eq hc] at harb ⊢
  obtain ⟨hstate, hchan, hother, _, _⟩ := choose_abandoned (b := burstFailed c s) hinv hc (burstFailed_out c s)
  have hfailed : burstFailed c s = { s with
      snapshots := (keepItem s).snapshots, out := (burstFailed c s).out
      status := { s.status with causes := s.status.causes ||| Cause.writeoutFault.mask } } := by
    unfold burstFailed
    rw [abandonRecord_eq]
    rfl
  have hframe : grant (freePort (choose (burstFailed c s))) = { s with
      link := (grant (freePort (choose (burstFailed c s)))).link, snapshots := (keepItem s).snapshots
      out := { s.out with
        chanI := (choose (burstFailed c s)).out.chanI, chanP := (choose (burstFailed c s)).out.chanP
        lastActive := (choose (burstFailed c s)).out.lastActive, record := (choose (burstFailed c s)).out.record }
      status := { s.status with causes := s.status.causes ||| Cause.writeoutFault.mask } } := by
    refine (grant_freePort_eq _).trans ?_
    generalize (grant (freePort (choose (burstFailed c s)))).link = l
    rw [hstate, hfailed]
  have hout : (grant (freePort (choose (burstFailed c s)))).out = (choose (burstFailed c s)).out := by
    rw [grant_freePort_eq]
  have hsnap : (grant (freePort (choose (burstFailed c s)))).snapshots = (keepItem s).snapshots := by rw [hframe]
  rw [hout, hsnap]
  refine ⟨?_, keepItem_kept s, fun r u e x hr hitem hx he => (keepItem_kept s).rewrite hr hitem hx he,
    recordWords_congr ?_ ?_ ?_, hchan, hother, harb⟩
  · exact hframe
  · rw [hframe]
  · rw [hframe]
  · rw [hframe]

/-! ## BRST (R143, R163, R164) -/

/-- An upstream command is taken where the port is free for it. -/
theorem upstream_taken {i : Instr} (h : Upstream i = true) (s : State) : ∃ f, exec i s = .next (takeUpstream f s) := by
  cases i
  case dropWrite | planWrite | postedWrite | forwardedRead | statementRingAccess | misalignedTransaction
      | accountWindowWrite | statusWriteRefused | causeWrite | maskWrite | timeWrite | timeAdjustWrite | exportWrite
      | start | clearArm | clear | periodClose | periodResend | clockSwitch | commandBadCode | openUnit | closeUnit
      | forceUnit | cancelUnit | unitCmdBadCode => exact ⟨_, rfl⟩
  all_goals cases h

theorem upstream_ignored {i : Instr} (h : Upstream i = true) {s : State}
    (hbusy : s.pins.brst = true ∨ s.link.forwarded ≠ none) : exec i s = .next s := by
  obtain ⟨f, hf⟩ := upstream_taken h s
  rw [hf, takeUpstream_busy]
  rw [upstreamFree_iff]
  rintro ⟨hfwd, hbrst⟩
  rcases hbusy with hasserted | hreading
  · rw [hbrst] at hasserted
    cases hasserted
  · exact hreading hfwd

theorem dropRead_none {s : State} (h : s.link.forwarded = none) : dropRead s = s := by rw [dropRead, h]

theorem cancelAndChoose_free {s : State} (h : s.out.active = none) : cancelAndChoose s = s :=
  if_neg (by rw [h]; decide)

theorem cancelAndChoose_active {s : State} {c : Channel} (h : s.out.active = some c) :
    cancelAndChoose s = choose (cancelActive s) := if_pos (by rw [h]; rfl)

theorem cancelActive_kept {s : State} {c : Channel} (hc : s.out.active = some c) :
    ItemKept s (cancelActive s).snapshots := by
  rw [cancelActive, hc]
  exact keepItem_kept { s with link := s.link.dropWriteOut }

/-- A read that is dropped leaves the link with none in progress, and its access at the port disregarded (R164). -/
theorem dropRead_link {s : State} (h : LinkInv s) : (dropRead s).link = { s.link with
    forwarded := none, reqRead := false, port := disregardRead s.link.port } := by
  cases hfwd : s.link.forwarded with
  | some q => rw [dropRead_some hfwd]
  | none =>
    have hreq : s.link.reqRead = false := Bool.eq_false_iff.mpr fun hreq => h.readWaits hreq hfwd
    have hport : disregardRead s.link.port = s.link.port := by
      unfold disregardRead
      split
      · next r hr =>
        rw [(h.readsForwarded r hr).1] at hfwd
        cases hfwd
      · rfl
    rw [dropRead_none hfwd, hport, ← hfwd, ← hreq]

/-- Cancelled or not, no burst is at the port and none requested (R164). -/
theorem cancelAndChoose_link {s : State} (h : EngineInv s) : (cancelAndChoose s).link = s.link.dropWriteOut := by
  cases hc : s.out.active with
  | none =>
    have hburst := h.link.ready.burst
    rw [h.out.noRecordFree hc] at hburst
    obtain ⟨hport, hreq⟩ := hburst.quiet
    have hsame : s.link.dropWriteOut = s.link := by
      have hp := Link.dropWriteOut_other hport
      rw [Link.dropWriteOut_eq] at hp ⊢
      rw [show disregardBurst s.link.port = s.link.port from hp, ← hreq]
    rw [hsame, cancelAndChoose_free hc]
  | some c =>
    obtain ⟨_, hcancel⟩ := cancelActive_active hc
    obtain ⟨_, _, hchoose⟩ := choose_frame (cancelActive s)
    rw [cancelAndChoose_active hc, hchoose, hcancel]

/-- What the reset leaves beside the link, the engine, the snapshots and the answer. -/
theorem cancelAndChoose_frame {s : State} (h : WriteOutInv s) : cancelAndChoose s = { s with
    link := (cancelAndChoose s).link, out := (cancelAndChoose s).out, snapshots := (cancelAndChoose s).snapshots } := by
  cases hc : s.out.active with
  | none => rw [cancelAndChoose_free hc]
  | some c =>
    obtain ⟨_, hcancel⟩ := cancelActive_active hc
    have hroom : (cancelActive s).out.u < 2048 := by
      rw [hcancel]
      have hu := h.activeRoom c (WriteOut.active_some hc)
      cases c <;> exact hu
    rw [cancelAndChoose_active hc, choose_room hroom, hcancel]

theorem dropRead_frame (s : State) : dropRead s = { s with link := (dropRead s).link, answer := (dropRead s).answer } := by
  cases hfwd : s.link.forwarded with
  | none => rw [dropRead_none hfwd]
  | some q => rw [dropRead_some hfwd]

theorem dropRead_answer (s : State) :
    (s.link.forwarded ≠ none → (dropRead s).answer = none) ∧
      (s.link.forwarded = none → (dropRead s).answer = s.answer) := by
  refine ⟨fun h => ?_, fun h => ?_⟩
  · obtain ⟨q, hq⟩ := Option.ne_none_iff_exists'.mp h
    rw [dropRead_some hq]
  · rw [dropRead_none h]

/-- What the memory-bus reset leaves (R163). -/
theorem resetBus_eq {s : State} (h : EngineInv s) : resetBus s = { s with
    link := (cancelAndChoose (dropRead s)).link, out := (cancelAndChoose (dropRead s)).out
    answer := (dropRead s).answer, snapshots := (cancelAndChoose (dropRead s)).snapshots
    status := { s.status with mask := 0, armed := false } } := by
  unfold resetBus
  rw [cancelAndChoose_frame h.dropRead.out]
  dsimp only
  rw [dropRead_frame s]

/-- An access at the port of a read or of the engine runs on, its answer disregarded (R164). -/
theorem disregard_port (p : Option Access) : disregardBurst (disregardRead p) = match p with
    | some (.read r) => some (.disregarded (.read r))
    | some (.firstBurst w) => some (.disregarded (.write w))
    | some (.secondBurst w) => some (.disregarded (.write w))
    | p => p := by
  cases p with
  | none => rfl
  | some a => cases a <;> rfl

theorem resetBus_link {s : State} (h : EngineInv s) : (cancelAndChoose (dropRead s)).link = { s.link with
    forwarded := none, reqRead := false, reqWriteOut := false
    port := disregardBurst (disregardRead s.link.port) } := by
  rw [cancelAndChoose_link h.dropRead, dropRead_link h.link]
  rfl

/-- The engine after the reset, by the channel that is ACTIVE (R143). -/
theorem cancelAndChoose_abandoned {s : State} (h : WriteOutInv s) {c : Channel} (hc : s.out.active = some c) :
    (cancelAndChoose s).out = { s.out with
      chanI := (cancelAndChoose s).out.chanI, chanP := (cancelAndChoose s).out.chanP
      lastActive := (cancelAndChoose s).out.lastActive, record := (cancelAndChoose s).out.record } ∧
    (cancelAndChoose s).out.chan c = { state := .idle, outcome := .cancelled } ∧
    (cancelAndChoose s).out.chan c.other = { s.out.chan c.other with
      state := if (s.out.chan c.other).state = .pending then .active else (s.out.chan c.other).state } ∧
    (cancelAndChoose s).out.lastActive =
      (if (s.out.chan c.other).state = .pending then c.other else s.out.lastActive) ∧
    ((s.out.chan c.other).state ≠ .pending → (cancelAndChoose s).out.record = none) := by
  have hout : (cancelActive s).out = (abandonRecord c .cancelled s).out := by
    obtain ⟨_, hcancel⟩ := cancelActive_active hc
    rw [hcancel, abandonRecord_eq]
  obtain ⟨hstate, hrest⟩ := choose_abandoned h hc hout
  rw [cancelAndChoose_active hc]
  refine ⟨?_, hrest⟩
  exact congrArg State.out hstate

theorem cancelAndChoose_kept {s : State} {c : Channel} (hc : s.out.active = some c) :
    ItemKept s (cancelAndChoose s).snapshots := by
  obtain ⟨_, _, hchoose⟩ := choose_frame (cancelActive s)
  rw [cancelAndChoose_active hc, hchoose]
  exact cancelActive_kept hc

theorem execBrst_asserts {s : State} (h : s.pins.brst = false) :
    exec (.brst true) s = .next (resetBus (setBrst true s)) := by
  show execBrst s true = _
  rw [execBrst, h]
  rfl

/-- Settles O12: the pin, the port that is not free, and the reset, block by block. -/
theorem brstResetsTheBusSide : Obligations.BrstResetsTheBusSide := by
  refine ⟨fun s => rfl, fun s hbrst => ?_, fun i s hup hbusy => upstream_ignored hup hbusy,
    fun s hout hlink hbrst => ⟨_, execBrst_asserts hbrst, ?_⟩⟩
  · show execBrst s true = _
    rw [execBrst, hbrst]
    show Host.Outcome.next { s with pins := { s.pins with brst := true } } = _
    rw [← hbrst]
  · have hinv : EngineInv (setBrst true s) := (EngineInv.mk hout hlink).of_ledger rfl
    have hdrop := dropRead_frame (setBrst true s)
    have hdropOut : (dropRead (setBrst true s)).out = s.out := by rw [hdrop]; rfl
    have hdropSnaps : (dropRead (setBrst true s)).snapshots = s.snapshots := by rw [hdrop]; rfl
    obtain ⟨hanswered, hunanswered⟩ := dropRead_answer (setBrst true s)
    rw [resetBus_eq hinv]
    refine ⟨rfl, call_of_mask_zero rfl, ?_, hanswered, hunanswered, fun hfree => ?_, fun c hc => ?_⟩
    · refine (resetBus_link hinv).trans ?_
      rw [disregard_port]
      rfl
    · dsimp only
      rw [cancelAndChoose_free (hdropOut ▸ hfree)]
      exact ⟨hdropOut, hdropSnaps⟩
    · have hc' : (dropRead (setBrst true s)).out.active = some c := hdropOut ▸ hc
      have hcancelled := cancelAndChoose_abandoned hinv.dropRead.out hc'
      have hkept := cancelAndChoose_kept hc'
      rw [hdropOut] at hcancelled
      refine ⟨?_, hcancelled⟩
      unfold ItemKept at hkept ⊢
      rw [hdropOut, hdropSnaps] at hkept
      exact hkept

end Sys2Proof.Machine
end

section
/-! SUPPORT. A record that is complete (O46; R111, R133, R139): what is released, what the pointers and the channels
become, and what is raised. -/

namespace Sys2Proof.Machine

/-! ## The item released (R139) -/

/-- What a released item leaves: everything but the queue, the snapshots, the records of the slots, the trailer and the
causes. -/
theorem releaseItem_eq (it : Item) (s : State) : releaseItem it s = { s with
    out := { s.out with holding := (releaseItem it s).out.holding }
    snapshots := (releaseItem it s).snapshots, occ := (releaseItem it s).occ
    period := (releaseItem it s).period
    status := { s.status with causes := (releaseItem it s).status.causes } } := by
  cases it with
  | summary => rfl
  | statement u =>
    unfold releaseItem
    dsimp only
    split
    · split <;> rfl
    · rfl
  | trailer => rfl

theorem releaseItem_causeSet (it : Item) (s : State) {x : Cause} (hunit : x ≠ .unitChanged)
    (hperiod : x ≠ .periodWritten) : (releaseItem it s).causeSet x = s.causeSet x := by
  cases it with
  | summary => rfl
  | statement u =>
    unfold releaseItem
    dsimp only
    split
    · split
      · rw [causeSet_raise, beq_false_of_ne hunit, Bool.or_false]
        rfl
      · rfl
    · rfl
  | trailer =>
    show (raise .periodWritten _).causeSet x = _
    rw [causeSet_raise, beq_false_of_ne hperiod, Bool.or_false]
    rfl

theorem releaseItem_statement (u : UnitId) (s : State) :
    (releaseItem (.statement u) s).snapshots = s.snapshots.set u none ∧
      (releaseItem (.statement u) s).period = s.period := by
  unfold releaseItem
  dsimp only
  split
  · split
    · exact ⟨rfl, rfl⟩
    · exact ⟨rfl, rfl⟩
  · exact ⟨rfl, rfl⟩

/-- The slot of a FINAL statement that is CLOSED becomes VACANT, which UNIT_CHANGED says (R111). -/
theorem releaseItem_final {u : UnitId} {s : State} {x : Statement} (hx : s.snapshots[u] = some x)
    (hfinal : x.final = true) (hclosed : s.occ[u].state = .closed) :
    (releaseItem (.statement u) s).occ = s.occ.set u { s.occ[u] with state := .vacant } ∧
      (releaseItem (.statement u) s).causeSet .unitChanged = true := by
  unfold releaseItem
  dsimp only
  rw [hx]
  dsimp only
  rw [if_pos ⟨hfinal, hclosed⟩, causeSet_raise, beq_self_eq_true, Bool.or_true]
  exact ⟨rfl, rfl⟩

theorem releaseItem_notFinal {u : UnitId} {s : State} {x : Statement} (hx : s.snapshots[u] = some x)
    (hfinal : x.final = false) : (releaseItem (.statement u) s).occ = s.occ := by
  unfold releaseItem
  dsimp only
  rw [hx]
  dsimp only
  rw [if_neg (by rw [hfinal]; rintro ⟨h, _⟩; cases h)]

/-! ## The engine once the record is counted -/

/-- The completed record counted and its item released. -/
def recordReleased (c : Channel) (r : Record) (s : State) : State := releaseItem r.item (recordCounted c s)

theorem recordCounted_causeSet (c : Channel) (s : State) (x : Cause) :
    (recordCounted c s).causeSet x = s.causeSet x := rfl

/-- W, U and the sequence number rise, the outcome is COMPLETE, the other channel stands (R139). -/
theorem recordCounted_out (c : Channel) (s : State) : (recordCounted c s).out.w = s.out.w + 1 ∧
    (recordCounted c s).out.u = s.out.u + 1 ∧ (recordCounted c s).out.seq = s.out.seq + 1 ∧
    (recordCounted c s).out.x = s.out.x ∧ (recordCounted c s).out.lost = s.out.lost ∧
    (recordCounted c s).out.holding = s.out.holding ∧
    ((recordCounted c s).out.chan c).outcome = .complete ∧
    (recordCounted c s).out.chan c.other = s.out.chan c.other ∧
    (recordCounted c s).out.lastActive = s.out.lastActive := by
  cases c <;> exact ⟨rfl, rfl, rfl, rfl, rfl, rfl, rfl, rfl, rfl⟩

theorem recordReleased_out (c : Channel) (r : Record) (s : State) : (recordReleased c r s).out =
    { (recordCounted c s).out with holding := (recordReleased c r s).out.holding } := releaseItem_out _ _

theorem recordReleased_chan (c : Channel) (r : Record) (s : State) (d : Channel) :
    (recordReleased c r s).out.chan d = (recordCounted c s).out.chan d := by
  rw [recordReleased_out]
  cases d <;> rfl

theorem recordReleased_eq (c : Channel) (r : Record) (s : State) : recordReleased c r s = { s with
    out := (recordReleased c r s).out, snapshots := (recordReleased c r s).snapshots
    occ := (recordReleased c r s).occ, period := (recordReleased c r s).period
    status := { s.status with causes := (recordReleased c r s).status.causes } } :=
  (releaseItem_eq r.item (recordCounted c s)).trans (congrArg (fun o => { s with
    out := o, snapshots := (recordReleased c r s).snapshots, occ := (recordReleased c r s).occ
    period := (recordReleased c r s).period
    status := { s.status with causes := (recordReleased c r s).status.causes } }) (recordReleased_out c r s).symm)

/-! ## The channel's next state (R133, R139) -/

theorem afterRecord_idle {c : Channel} {s : State} (h : hasWork s c = false) :
    afterRecord c s = setChanState c .idle s := if_neg (by rw [h]; decide)

theorem afterRecord_pending {c : Channel} {s : State} (h : hasWork s c = true) (hroom : s.out.u < 2048) :
    afterRecord c s = setChanState c .pending s := (if_pos h).trans (if_pos hroom)

theorem afterRecord_waiting {c : Channel} {s : State} (h : hasWork s c = true) (hfull : ¬ s.out.u < 2048) :
    afterRecord c s = raise .ringFull (setChanState c .waitingExport s) := (if_pos h).trans (if_neg hfull)

/-- The channel is set, and RING_FULL at most is raised. -/
theorem afterRecord_cases (c : Channel) (s : State) : ∃ st,
    (afterRecord c s).out = (setChanState c st s).out ∧
    afterRecord c s = { s with
      out := (afterRecord c s).out, status := { s.status with causes := (afterRecord c s).status.causes } } ∧
    ∀ x, x ≠ .ringFull → (afterRecord c s).causeSet x = s.causeSet x := by
  cases hwork : hasWork s c with
  | false =>
    rw [afterRecord_idle hwork]
    exact ⟨.idle, rfl, rfl, fun _ _ => rfl⟩
  | true =>
    by_cases hroom : s.out.u < 2048
    · rw [afterRecord_pending hwork hroom]
      exact ⟨.pending, rfl, rfl, fun _ _ => rfl⟩
    · rw [afterRecord_waiting hwork hroom]
      refine ⟨.waitingExport, rfl, rfl, fun x hx => ?_⟩
      rw [causeSet_raise, beq_false_of_ne hx, Bool.or_false]
      rfl

/-! ## The engine that chooses, with the ring full (R136) -/

theorem pendingToWaiting_causeSet (c : Channel) (s : State) (x : Cause) : (pendingToWaiting c s).causeSet x =
    (s.causeSet x || (decide ((s.out.chan c).state = .pending) && x == .ringFull)) := by
  unfold pendingToWaiting enterWaiting
  split
  · next h =>
    rw [causeSet_raise, decide_eq_true h, Bool.true_and]
    rfl
  · next h => rw [decide_eq_false h, Bool.false_and, Bool.or_false]

theorem choose_full {s : State} (hfree : ∀ c, (s.out.chan c).state ≠ .active) (hfull : ¬ s.out.u < 2048) :
    choose s = pendingToWaiting .p (pendingToWaiting .i s) := by
  have hidle : ¬ s.out.active.isSome = true := by rw [WriteOut.active_none_iff.mpr hfree]; decide
  exact (if_neg hidle).trans (if_neg hfull)

/-- With the ring full each PENDING channel waits, which RING_FULL says. -/
theorem choose_full_causeSet {s : State} (hfree : ∀ c, (s.out.chan c).state ≠ .active) (hfull : ¬ s.out.u < 2048)
    (x : Cause) : (choose s).causeSet x = (s.causeSet x ||
      ((decide (s.out.chanI.state = .pending) || decide (s.out.chanP.state = .pending)) && x == .ringFull)) := by
  have hp : (pendingToWaiting .i s).out.chan .p = s.out.chan .p := by
    rw [pendingToWaiting_out]
    rfl
  rw [choose_full hfree hfull, pendingToWaiting_causeSet, pendingToWaiting_causeSet, hp, Bool.or_assoc,
    Bool.and_or_distrib_right]
  rfl

theorem choose_waits {s : State} (hfree : ∀ c, (s.out.chan c).state ≠ .active) (hfull : ¬ s.out.u < 2048)
    {d : Channel} (hd : (s.out.chan d).state = .pending) :
    ((choose s).out.chan d).state = .waitingExport ∧ (choose s).causeSet .ringFull = true := by
  refine ⟨?_, ?_⟩
  · rcases choose_cases hfree with ⟨hroom, _⟩ | ⟨hroom, _⟩ | ⟨_, h⟩
    · exact absurd hroom hfull
    · exact absurd hroom hfull
    · have hwaited : (choose s).out.chan d = (s.out.chan d).waited := by
        rw [h]
        cases d <;> rfl
      rw [hwaited, Chan.waited, if_pos hd]
  · rw [choose_full_causeSet hfree hfull, beq_self_eq_true, Bool.and_true, Bool.or_eq_true, Bool.or_eq_true,
      decide_eq_true_eq, decide_eq_true_eq]
    cases d
    · exact .inr (.inl hd)
    · exact .inr (.inr hd)

theorem choose_causeSet {s : State} (hfree : ∀ c, (s.out.chan c).state ≠ .active) {x : Cause} (hx : x ≠ .ringFull) :
    (choose s).causeSet x = s.causeSet x := by
  by_cases hroom : s.out.u < 2048
  · rw [choose_room hroom]
    rfl
  · rw [choose_full_causeSet hfree hroom, beq_false_of_ne hx, Bool.and_false, Bool.or_false]

/-- A cause that is set stays set when the engine chooses. -/
theorem choose_causeSet_stays {s : State} (hfree : ∀ c, (s.out.chan c).state ≠ .active) {x : Cause}
    (hx : s.causeSet x = true) : (choose s).causeSet x = true := by
  by_cases hroom : s.out.u < 2048
  · rw [choose_room hroom]
    exact hx
  · rw [choose_full_causeSet hfree hroom, hx, Bool.true_or]

/-- A channel that is not PENDING is left as it is. -/
theorem choose_chan_stays {s : State} (hfree : ∀ c, (s.out.chan c).state ≠ .active) {d : Channel}
    (hd : (s.out.chan d).state ≠ .pending) : (choose s).out.chan d = s.out.chan d := by
  rcases choose_cases hfree with ⟨_, _, h⟩ | ⟨_, c, hc, h⟩ | ⟨_, h⟩
  · rw [h]
  · rcases d.eq_or_other c with rfl | rfl
    · exact absurd hc hd
    · rw [h, activate_chan_other]
  · have hwaited : (choose s).out.chan d = (s.out.chan d).waited := by
      rw [h]
      cases d <;> rfl
    rw [hwaited, Chan.waited, if_neg hd]

/-- What the engine leaves when it chooses. -/
theorem choose_eq (s : State) : choose s = { s with
    out := (choose s).out, status := { s.status with causes := (choose s).status.causes } } := by
  have hwaits : ∀ (c : Channel) (t : State), pendingToWaiting c t = { t with
      out := (pendingToWaiting c t).out
      status := { t.status with causes := (pendingToWaiting c t).status.causes } } := fun c t => by
    unfold pendingToWaiting
    split <;> rfl
  by_cases hroom : s.out.u < 2048
  · rw [choose_room hroom]
  · cases hc : s.out.active with
    | some c => rw [choose_active hc]
    | none =>
      rw [choose_full (WriteOut.active_none_iff.mp hc) hroom, hwaits .p, hwaits .i]

/-! ## RECORD_COMPLETE -/

/-- The state after a completed record, but for the port (R139). -/
def recordCompleted (c : Channel) (r : Record) (s : State) : State :=
  choose (afterRecord c (recordReleased c r s))

theorem execRecord_complete {s : State} {w : WriteTxn} {c : Channel} {r : Record}
    (hport : s.link.port = some (.secondBurst w)) (hc : s.out.active = some c) (hr : s.out.record = some r) :
    exec .recordComplete s = .next (grant (freePort (recordCompleted c r s))) := by
  show execRecordComplete s = _
  rw [execRecordComplete, hport, hc]
  dsimp only
  rw [completeRecord_eq c hr]
  rfl

theorem recordCompleted_eq (c : Channel) (r : Record) (s : State) : recordCompleted c r s = { s with
    out := (recordCompleted c r s).out, snapshots := (recordReleased c r s).snapshots
    occ := (recordReleased c r s).occ, period := (recordReleased c r s).period
    status := { s.status with causes := (recordCompleted c r s).status.causes } } := by
  obtain ⟨_, _, hafter, _⟩ := afterRecord_cases c (recordReleased c r s)
  refine (choose_eq _).trans ?_
  show { afterRecord c (recordReleased c r s) with
    out := (recordCompleted c r s).out
    status := { (afterRecord c (recordReleased c r s)).status with
      causes := (recordCompleted c r s).status.causes } } = _
  rw [hafter]
  generalize recordCompleted c r s = completed
  rw [recordReleased_eq]

/-- The pointers, the sequence number and the queue are those of the record counted and released. -/
theorem recordCompleted_out (c : Channel) (r : Record) (s : State) : (recordCompleted c r s).out =
    { (recordReleased c r s).out with
      chanI := (recordCompleted c r s).out.chanI, chanP := (recordCompleted c r s).out.chanP
      lastActive := (recordCompleted c r s).out.lastActive, record := (recordCompleted c r s).out.record } := by
  obtain ⟨st, hout, _, _⟩ := afterRecord_cases c (recordReleased c r s)
  refine (choose_out _).trans ?_
  rw [hout, setChanState_out_eq]
  rfl

theorem setChanState_outcome (c d : Channel) (st : ChannelState) (s : State) :
    ((setChanState c st s).out.chan d).outcome = (s.out.chan d).outcome := by
  cases c <;> cases d <;> rfl

theorem recordCompleted_outcome (c d : Channel) (r : Record) (s : State) :
    ((recordCompleted c r s).out.chan d).outcome = ((recordCounted c s).out.chan d).outcome := by
  obtain ⟨st, hout, _, _⟩ := afterRecord_cases c (recordReleased c r s)
  rw [recordCompleted, choose_outcome, hout, setChanState_outcome, recordReleased_chan]

theorem recordCompleted_work (c d : Channel) (r : Record) (s : State) :
    hasWork (grant (freePort (recordCompleted c r s))) d = hasWork (recordReleased c r s) d := by
  rw [grant_freePort_eq]
  refine hasWork_congr (s := recordReleased c r s) ?_ ?_ ?_ d
  · show (recordCompleted c r s).out.holding = _
    rw [recordCompleted_out]
  · show (recordCompleted c r s).snapshots = _
    rw [recordCompleted_eq]
  · show (recordCompleted c r s).period.trailer = _
    rw [recordCompleted_eq]

section Completed

variable {s : State} {c : Channel} {r : Record} (hinv : WriteOutInv s) (hc : s.out.active = some c)
  (hr : s.out.record = some r)
include hinv hc hr

theorem releasedBut : EngineFreeBut c (recordReleased c r s) := by
  obtain ⟨r', hr', hof⟩ := hinv.recordOfActive c (WriteOut.active_some hc)
  cases hr.symm.trans hr'
  exact hinv.released hc hof

theorem afterRecord_inactive (d : Channel) : ((afterRecord c (recordReleased c r s)).out.chan d).state ≠ .active :=
  (releasedBut hinv hc hr).afterRecord.inactive d

omit hinv hc hr in
theorem recordReleased_u : (recordReleased c r s).out.u = s.out.u + 1 := by
  rw [recordReleased_out]
  exact (recordCounted_out c s).2.1

omit hinv hc hr in
theorem afterRecord_u : (afterRecord c (recordReleased c r s)).out.u = s.out.u + 1 := by
  obtain ⟨st, hout, _, _⟩ := afterRecord_cases c (recordReleased c r s)
  rw [hout, setChanState_u, recordReleased_u]

omit hinv hc hr in
/-- The other channel is as it was until the engine chooses. -/
theorem afterRecord_other : (afterRecord c (recordReleased c r s)).out.chan c.other = s.out.chan c.other := by
  obtain ⟨st, hout, _, _⟩ := afterRecord_cases c (recordReleased c r s)
  obtain ⟨_, _, _, _, _, _, _, hother, _⟩ := recordCounted_out c s
  rw [hout, (setChanState_chan c st _).2, recordReleased_chan, hother]

theorem recordCompleted_causeSet {x : Cause} (hx : x ≠ .ringFull) :
    (recordCompleted c r s).causeSet x = (recordReleased c r s).causeSet x := by
  obtain ⟨_, _, _, hcauses⟩ := afterRecord_cases c (recordReleased c r s)
  rw [recordCompleted, choose_causeSet (afterRecord_inactive hinv hc hr) hx, hcauses x hx]

/-- With no work left the channel is IDLE. -/
theorem recordCompleted_idle (hwork : hasWork (recordReleased c r s) c = false) :
    ((recordCompleted c r s).out.chan c).state = .idle := by
  have hstate : ((afterRecord c (recordReleased c r s)).out.chan c).state = .idle := by
    rw [afterRecord_idle hwork]
    exact (setChanState_chan c .idle _).1
  rw [recordCompleted, choose_chan_stays (afterRecord_inactive hinv hc hr) (by rw [hstate]; exact nofun)]
  exact hstate

omit hinv hc hr in
/-- With work and room it is PENDING, or ACTIVE again. -/
theorem recordCompleted_engaged (hwork : hasWork (recordReleased c r s) c = true) (hroom : s.out.u + 1 < 2048) :
    ((recordCompleted c r s).out.chan c).state = .pending ∨ ((recordCompleted c r s).out.chan c).state = .active := by
  have hstate : ((afterRecord c (recordReleased c r s)).out.chan c).state = .pending := by
    rw [afterRecord_pending hwork (recordReleased_u ▸ hroom)]
    exact (setChanState_chan c .pending _).1
  exact (choose_engages (afterRecord_u ▸ hroom) hstate).1

/-- With work and the ring full it waits for an EXPORT, which RING_FULL says. -/
theorem recordCompleted_waits (hwork : hasWork (recordReleased c r s) c = true) (hfull : s.out.u + 1 = 2048) :
    ((recordCompleted c r s).out.chan c).state = .waitingExport ∧ (recordCompleted c r s).causeSet .ringFull = true := by
  have hwaits := afterRecord_waiting hwork (s := recordReleased c r s) (by rw [recordReleased_u]; omega)
  have hstate : ((afterRecord c (recordReleased c r s)).out.chan c).state = .waitingExport := by
    rw [hwaits]
    exact (setChanState_chan c .waitingExport _).1
  have hcause : (afterRecord c (recordReleased c r s)).causeSet .ringFull = true := by
    rw [hwaits, causeSet_raise, beq_self_eq_true, Bool.or_true]
  have hno := afterRecord_inactive hinv hc hr
  refine ⟨?_, choose_causeSet_stays hno hcause⟩
  rw [recordCompleted, choose_chan_stays hno (by rw [hstate]; exact nofun)]
  exact hstate

/-- With room the other channel, PENDING behind the record, is next (R136). -/
theorem recordCompleted_next (hpending : (s.out.chan c.other).state = .pending) (hroom : s.out.u + 1 < 2048) :
    ((recordCompleted c r s).out.chan c.other).state = .active := by
  have hfree := WriteOut.active_none_iff.mpr (afterRecord_inactive hinv hc hr)
  have hstate : ((afterRecord c (recordReleased c r s)).out.chan c.other).state = .pending := by
    rw [afterRecord_other]
    exact hpending
  have hlast : (afterRecord c (recordReleased c r s)).out.lastActive = c := by
    obtain ⟨st, hout, _, _⟩ := afterRecord_cases c (recordReleased c r s)
    obtain ⟨_, _, _, _, _, _, _, _, hsame⟩ := recordCounted_out c s
    rw [hout, setChanState_out_eq, recordReleased_out]
    exact hsame.trans (hinv.lastIsActive c (WriteOut.active_some hc))
  rw [recordCompleted, choose_next hfree (afterRecord_u ▸ hroom) hstate fun _ => by rw [Channel.other_other, hlast]]
  exact activate_chan_state c.other _

theorem recordCompleted_otherWaits (hpending : (s.out.chan c.other).state = .pending) (hfull : s.out.u + 1 = 2048) :
    ((recordCompleted c r s).out.chan c.other).state = .waitingExport ∧
      (recordCompleted c r s).causeSet .ringFull = true := by
  refine choose_waits (afterRecord_inactive hinv hc hr) (by rw [afterRecord_u]; omega) ?_
  rw [afterRecord_other]
  exact hpending

end Completed

theorem grant_causeSet (s : State) (x : Cause) : (grant s).causeSet x = s.causeSet x := by
  rw [grant_state]
  rfl

/-- Settles O46: the counts, the item by its kind, the channel's next state by its work and the room, and the other
channel's. -/
theorem recordCompleteReleasesItsItem : Obligations.RecordCompleteReleasesItsItem := by
  intro s w c r hinv hport hc hr
  refine ⟨_, execRecord_complete hport hc hr, ?_⟩
  have hframe := recordCompleted_eq c r s
  have harb := grant_arbitrated (freePort (recordCompleted c r s))
  have hlink : (freePort (recordCompleted c r s)).link = { s.link with port := none } := by
    rw [hframe]
    rfl
  rw [hlink] at harb
  have hwork := recordCompleted_work c c r s
  have hcause : ∀ x, (grant (freePort (recordCompleted c r s))).causeSet x = (recordCompleted c r s).causeSet x :=
    fun x => grant_causeSet _ x
  obtain ⟨hw, hu, hseq, hx, hlost, hholding, hcomplete, hother, _⟩ := recordCounted_out c s
  have hout : (grant (freePort (recordCompleted c r s))).out = (recordCompleted c r s).out := by
    rw [grant_freePort_eq]
  have hsnap : (grant (freePort (recordCompleted c r s))).snapshots = (recordReleased c r s).snapshots := by
    rw [grant_freePort_eq, hframe]
  have hocc : (grant (freePort (recordCompleted c r s))).occ = (recordReleased c r s).occ := by
    rw [grant_freePort_eq, hframe]
  have hperiod : (grant (freePort (recordCompleted c r s))).period = (recordReleased c r s).period := by
    rw [grant_freePort_eq, hframe]
  have hstate : grant (freePort (recordCompleted c r s)) = { s with
      link := (grant (freePort (recordCompleted c r s))).link, out := (recordCompleted c r s).out
      snapshots := (recordReleased c r s).snapshots, occ := (recordReleased c r s).occ
      period := (recordReleased c r s).period
      status := { s.status with causes := (recordCompleted c r s).status.causes } } := by
    refine (grant_freePort_eq _).trans ?_
    generalize (grant (freePort (recordCompleted c r s))).link = l
    rw [hframe]
  have hstatus : (grant (freePort (recordCompleted c r s))).status = (recordCompleted c r s).status := by
    rw [grant_freePort_eq]
  rw [hout, hsnap, hocc, hperiod, hstatus, hwork]
  simp only [hcause]
  have hqueue : (recordCompleted c r s).out.holding = (recordReleased c r s).out.holding := by
    rw [recordCompleted_out]
  refine ⟨hstate, harb, fun x hunit hwritten hring => ?_, ?_, ?_, ?_, ?_, ?_, ?_, ?_, fun hitem => ?_,
    fun u hitem => ?_, fun hitem => ?_, recordCompleted_idle hinv hc hr, recordCompleted_engaged,
    recordCompleted_waits hinv hc hr, recordCompleted_next hinv hc hr, recordCompleted_otherWaits hinv hc hr⟩
  · rw [recordCompleted_causeSet hinv hc hr hring, recordReleased, releaseItem_causeSet _ _ hunit hwritten]
    rfl
  · rw [recordCompleted_out, recordReleased_out]
    exact hw
  · rw [recordCompleted_out, recordReleased_out]
    exact hu
  · rw [recordCompleted_out, recordReleased_out]
    exact hseq
  · rw [recordCompleted_out, recordReleased_out]
    exact hx
  · rw [recordCompleted_out, recordReleased_out]
    exact hlost
  · rw [recordCompleted_outcome]
    exact hcomplete
  · rw [recordCompleted_outcome, hother]
  · rw [hqueue, recordReleased, hitem]
    exact ⟨congrArg List.tail hholding, rfl, rfl, rfl⟩
  · rw [hqueue, recordCompleted_causeSet hinv hc hr (x := .unitChanged) nofun, recordReleased, hitem,
      releaseItem_statement_holding]
    obtain ⟨hsnaps, hperiods⟩ := releaseItem_statement u (recordCounted c s)
    exact ⟨hholding, hperiods, hsnaps, fun x hx hfinal hclosed => releaseItem_final (s := recordCounted c s) hx hfinal hclosed,
      fun x hx hfinal => releaseItem_notFinal (s := recordCounted c s) hx hfinal⟩
  · rw [hqueue, recordCompleted_causeSet hinv hc hr (x := .periodWritten) nofun, recordReleased, hitem]
    refine ⟨hholding, rfl, rfl, rfl, ?_⟩
    show (raise .periodWritten _).causeSet .periodWritten = true
    rw [causeSet_raise, beq_self_eq_true, Bool.or_true]

end Sys2Proof.Machine
end

section
/-! SUPPORT. Stage 1 of a close (O15; R49 to R51, R107): the boundary estimate meter by meter, the interval snapshot, and
the second edge that reaches the boundary. -/

namespace Sys2Proof.Machine

/-! ## The boundary estimate (R49) -/

theorem misses_iff {l : MeterLive} : l.misses = true ↔ Missed l := by
  rw [MeterLive.misses, Missed, Bool.and_eq_true, Bool.or_eq_true, Bool.or_eq_true, beq_iff_eq, beq_iff_eq, beq_iff_eq,
    Bool.not_eq_true', or_assoc]

theorem goesStale_iff {l : MeterLive} : l.goesStale = true ↔
    Missed l ∧ l.state = .estimating ∧ 5 ≤ (satSucc l.missed).toNat := by
  rw [MeterLive.goesStale, Bool.and_eq_true, Bool.and_eq_true, misses_iff, beq_iff_eq, decide_eq_true_eq, and_assoc]

theorem isEstimated_iff {l : MeterLive} : l.isEstimated = true ↔
    Missed l ∧ (l.state = .live ∨ (l.state = .estimating ∧ (satSucc l.missed).toNat < 5)) := by
  rw [MeterLive.isEstimated, Bool.and_eq_true, Bool.and_eq_true, misses_iff, bne_iff_ne, Bool.not_eq_true',
    ← Bool.not_eq_true, goesStale_iff, and_assoc]
  refine and_congr_right fun hmiss => ?_
  have hstates := hmiss.1
  constructor
  · rintro ⟨hstale, hno⟩
    rcases hstates with h | h | h
    · exact .inl h
    · exact .inr ⟨h, Nat.lt_of_not_le fun hle => hno ⟨hmiss, h, hle⟩⟩
    · exact absurd h hstale
  · rintro (h | ⟨h, hlt⟩)
    · rw [h]
      exact ⟨nofun, fun ⟨_, he, _⟩ => nomatch he⟩
    · rw [h]
      exact ⟨nofun, fun ⟨_, _, hle⟩ => absurd hle (Nat.not_le.mpr hlt)⟩

theorem estimateMeter_present {l : MeterLive} (h : ¬ Missed l) : estimateMeter l = l := by
  unfold estimateMeter
  rw [if_neg fun he => h (isEstimated_iff.mp he).1, if_neg fun hm => h (misses_iff.mp hm)]

theorem estimateMeter_estimated {l : MeterLive} (h : l.isEstimated = true) : estimateMeter l = { l with
    state := .estimating, missed := satSucc l.missed, debt := l.debt + l.rate
    estimated := accAdd l.estimated l.rate, attributed := accAdd l.attributed l.rate } := if_pos h

theorem estimateMeter_stale {l : MeterLive} (hmiss : Missed l) (h : l.isEstimated = false) :
    estimateMeter l = { l with state := .stale, missed := satSucc l.missed } :=
  (if_neg (by rw [h]; decide)).trans (if_pos (misses_iff.mpr hmiss))

/-- Of the meters ESTIMATING after the boundary those that missed the interval received an estimate. -/
theorem isEstimated_eq (l : MeterLive) :
    l.isEstimated = ((estimateMeter l).state == .estimating && !l.mark) := by
  rw [Bool.eq_iff_iff]
  by_cases hmiss : Missed l
  · obtain ⟨_, hmark⟩ := id hmiss
    rw [hmark, Bool.not_false, Bool.and_true]
    cases h : l.isEstimated with
    | true =>
      rw [estimateMeter_estimated h]
      exact ⟨fun _ => rfl, fun _ => rfl⟩
    | false =>
      rw [estimateMeter_stale hmiss h]
      exact ⟨nofun, nofun⟩
  · rw [estimateMeter_present hmiss, isEstimated_iff, Bool.and_eq_true, beq_iff_eq, Bool.not_eq_true']
    exact ⟨fun ⟨h, _⟩ => absurd h hmiss, fun ⟨hstate, hmark⟩ => absurd ⟨.inr (.inl hstate), hmark⟩ hmiss⟩

/-! ## The interval snapshot (R50, R51) -/

theorem beginClose_eq (b : Time) (s : State) : beginClose b s = { s with
    close := some (takeSnapshot b s { s with live := s.live.map estimateMeter })
    live := (s.live.map estimateMeter).map (·.clearOpen)
    capture := { s.capture with tallies := { taken := 0, rejected := 0, skewed := 0 } }
    occ := s.occ.map fun r => { r with cmdSinceBoundary := false }
    status := { s.status with causes := (beginClose b s).status.causes } } := by
  unfold beginClose raiseIf
  dsimp only
  split <;> rfl

theorem beginClose_causeSet (b : Time) (s : State) (x : Cause) : (beginClose b s).causeSet x =
    (s.causeSet x || (s.live.any (·.goesStale) && x == .meterStale)) := by
  unfold beginClose
  rw [causeSet_raiseIf]
  rfl

theorem anyStale_iff {s : State} : s.live.any (·.goesStale) = true ↔ ∃ m : MeterId,
    Missed s.live[m] ∧ s.live[m].state = .estimating ∧ 5 ≤ (satSucc s.live[m].missed).toNat := by
  rw [Vector.any_eq_true]
  constructor
  · rintro ⟨i, hi, h⟩
    exact ⟨⟨i, hi⟩, goesStale_iff.mp h⟩
  · rintro ⟨m, h⟩
    exact ⟨m.val, m.isLt, goesStale_iff.mpr h⟩

theorem beginClose_live (b : Time) (s : State) (m : MeterId) :
    (beginClose b s).live[m] = (estimateMeter s.live[m]).clearOpen := by
  rw [beginClose_eq]
  dsimp only
  rw [getElem_map_fin, getElem_map_fin]

theorem takeSnapshot_meter (b : Time) (s : State) (m : MeterId) :
    (takeSnapshot b s { s with live := s.live.map estimateMeter }).meters[m] =
      snapMeter s.plan.meters[m] (estimateMeter s.live[m]) := by
  unfold takeSnapshot
  dsimp only
  rw [getElem_ofFn_fin, getElem_map_fin]

theorem takeSnapshot_occ (b : Time) (s : State) (u : UnitId) :
    (takeSnapshot b s { s with live := s.live.map estimateMeter }).occ[u] = s.occ[u].state := by
  unfold takeSnapshot
  dsimp only
  rw [getElem_map_fin]

theorem takeSnapshot_estimates (b : Time) (s : State) :
    (takeSnapshot b s { s with live := s.live.map estimateMeter }).estimates =
      (List.finRange 512).countP fun m : MeterId =>
        (beginClose b s).live[m].state == .estimating && !s.live[m].mark := by
  unfold takeSnapshot
  dsimp only
  refine congrArg (fun p => (List.finRange 512).countP p) (funext fun m => ?_)
  rw [beginClose_live, isEstimated_eq]
  rfl

theorem takeSnapshot_stale (b : Time) (s : State) :
    (takeSnapshot b s { s with live := s.live.map estimateMeter }).stale =
      (List.finRange 512).countP fun m : MeterId => (beginClose b s).live[m].state == .stale := by
  unfold takeSnapshot
  dsimp only
  refine congrArg (fun p => (List.finRange 512).countP p) (funext fun m => ?_)
  rw [beginClose_live, getElem_map_fin]
  rfl

/-! ## The second edge at the boundary -/

/-- The state in which stage 1 finds the device: the second has passed (R75). -/
def atBoundary (s : State) : State :=
  { s with clock := { s.clock.atEdge with time := s.clock.time + 1, phase := 0 } }

theorem secondEdge_boundary {s : State} (hrun : s.status.mode = .running) (hclose : s.close = none)
    (hsw : s.clock.switch ≠ .settled) (ht : s.clock.time + 1 = s.clock.nextBoundary) : secondEdge s = { beginClose
      s.clock.nextBoundary (atBoundary s) with clock := (secondEdge s).clock } := by
  have hedge : s.clock.atEdge.time + 1 = s.clock.atEdge.nextBoundary := by simpa using ht
  have hpass : secondEdge s = boundaryEvent (atBoundary s) := by
    rw [secondEdge_unsettled hsw, passSecond_boundary (s := { s with clock := s.clock.atEdge }) hrun hedge]
    unfold atBoundary
    rw [Clock.atEdge_time]
  have hevent : boundaryEvent (atBoundary s) = { beginClose (atBoundary s).clock.time (finishClose (atBoundary s)) with
      clock := (boundaryEvent (atBoundary s)).clock } := rfl
  rw [finishClose_idle (s := atBoundary s) hclose] at hevent
  rw [hpass, ← ht]
  exact hevent

/-- The device at the boundary keeps the clock's open interval and its sequence number. -/
theorem takeSnapshot_atBoundary_clock (s : State) (b : Time) (live : Vector MeterLive 512) :
    (takeSnapshot b (atBoundary s) { atBoundary s with live := live }).seq = s.clock.seq ∧
    (takeSnapshot b (atBoundary s) { atBoundary s with live := live }).interval = s.clock.interval ∧
    (takeSnapshot b (atBoundary s) { atBoundary s with live := live }).length = b - s.clock.interval.actual ∧
    (takeSnapshot b (atBoundary s) { atBoundary s with live := live }).band =
      lookupBand s.plan s.clock.interval.nominal := by
  have hinterval : s.clock.atEdge.interval = s.clock.interval := by rw [Clock.atEdge_eq]
  refine ⟨Clock.atEdge_seq s.clock, hinterval, ?_, ?_⟩
  · exact congrArg (fun i : OpenInterval => b - i.actual) hinterval
  · exact congrArg (fun i : OpenInterval => lookupBand s.plan i.nominal) hinterval

/-- What the estimate leaves of a meter's record, by what the meter was (R49). -/
theorem estimateMeter_missed {l : MeterLive} (hmiss : Missed l) :
    (estimateMeter l).missed = satSucc l.missed ∧
    (l.state = .live ∨ (l.state = .estimating ∧ (satSucc l.missed).toNat < 5) →
      estimateMeter l = { l with
        state := .estimating, missed := (estimateMeter l).missed, debt := l.debt + l.rate
        estimated := (estimateMeter l).estimated, attributed := (estimateMeter l).attributed } ∧
      Added l.estimated l.rate (estimateMeter l).estimated ∧
      Added l.attributed l.rate (estimateMeter l).attributed) ∧
    (l.state = .stale ∨ (l.state = .estimating ∧ 5 ≤ (satSucc l.missed).toNat) →
      estimateMeter l = { l with state := .stale, missed := (estimateMeter l).missed }) := by
  cases hest : l.isEstimated with
  | true =>
    have hwhen := (isEstimated_iff.mp hest).2
    rw [estimateMeter_estimated hest]
    refine ⟨rfl, fun _ => ⟨rfl, accAdd_added _ _, accAdd_added _ _⟩, fun hstale => ?_⟩
    rcases hwhen with h | ⟨h, hlt⟩ <;> rcases hstale with h' | ⟨h', hle⟩
    · rw [h] at h'; exact nomatch h'
    · rw [h] at h'; exact nomatch h'
    · rw [h] at h'; exact nomatch h'
    · exact absurd hle (Nat.not_le.mpr hlt)
  | false =>
    rw [estimateMeter_stale hmiss hest]
    refine ⟨rfl, fun hwhen => ?_, fun _ => rfl⟩
    rw [isEstimated_iff.mpr ⟨hmiss, hwhen⟩] at hest
    exact nomatch hest

/-- Settles O15: stage 1 on the state at the boundary. -/
theorem boundaryTakesTheSnapshot : Obligations.BoundaryTakesTheSnapshot := by
  intro s hrun hclose hsw ht
  have hedge := secondEdge_boundary hrun hclose hsw ht
  have hlive : (secondEdge s).live = (beginClose s.clock.nextBoundary (atBoundary s)).live :=
    (congrArg State.live hedge).trans rfl
  have hcauses : ∀ x, (secondEdge s).causeSet x = (s.causeSet x || (s.live.any (·.goesStale) && x == .meterStale)) :=
    fun x => (congrArg (State.causeSet · x) hedge).trans (beginClose_causeSet s.clock.nextBoundary (atBoundary s) x)
  have hstatus : (secondEdge s).status.causes =
      (beginClose s.clock.nextBoundary (atBoundary s)).status.causes :=
    (congrArg (·.status.causes) hedge).trans rfl
  obtain ⟨hseq, hinterval, hlength, hband⟩ :=
    takeSnapshot_atBoundary_clock s s.clock.nextBoundary ((atBoundary s).live.map estimateMeter)
  have hclosed : (secondEdge s).close = some (takeSnapshot s.clock.nextBoundary (atBoundary s)
      { atBoundary s with live := (atBoundary s).live.map estimateMeter }) := by
    rw [hedge, beginClose_eq]
  refine ⟨secondEdge s, takeSnapshot s.clock.nextBoundary (atBoundary s)
    { atBoundary s with live := (atBoundary s).live.map estimateMeter }, rfl, hclosed, ?frame, ?others, ?stale, rfl, rfl,
    takeSnapshot_occ _ _, rfl, rfl, hband, hseq, hinterval, hlength, ?estimates, ?staleCount, ?meters⟩
  case frame =>
    rw [hlive, hstatus]
    refine hedge.trans ?_
    rw [beginClose_eq]
    rfl
  case others =>
    intro x hx
    rw [hcauses, beq_false_of_ne hx, Bool.and_false, Bool.or_false]
  case stale =>
    rw [hcauses, Bool.or_eq_true, ← anyStale_iff, beq_self_eq_true, Bool.and_true]
  case estimates =>
    rw [hlive]
    exact takeSnapshot_estimates _ _
  case staleCount =>
    rw [hlive]
    exact takeSnapshot_stale _ _
  case meters =>
    intro m
    rw [hlive]
    exact ⟨estimateMeter s.live[m], beginClose_live _ _ m, takeSnapshot_meter _ _ m, estimateMeter_present,
      estimateMeter_missed⟩

end Sys2Proof.Machine
end

section
/-! SUPPORT. A meter entry applied at stage 9 (O31; R105, R122 to R124): the meter's live fields by what becomes of its
identity, the debt written off, and the outstanding counts of the waiting slots. -/

namespace Sys2Proof.Machine

/-! ## The meter's live fields -/

theorem rebound_of_old_unused {old new : MeterEntry} (h : old.kind = .unused) : rebound old new = false := by
  rw [rebound, h]
  rfl

theorem rebound_of_new_unused {old new : MeterEntry} (h : new.kind = .unused) : rebound old new = false := by
  rw [rebound, h, Bool.and_comm (old.kind == .unit)]
  rfl

theorem rebound_of_same {old new : MeterEntry} (h : old.kind = new.kind) :
    rebound old new = (old.kind == .unit && old.binding != new.binding) := by
  rw [rebound, ← h, Bool.and_self]

theorem applyChange_meter_live_other {i m : MeterId} (h : m ≠ i) (x : MeterEntry) (s : State) :
    (applyChange (.meter i x) s).live[m] = s.live[m] := by
  rw [applyChange_meter_live, if_neg (Ne.symm h)]

/-- The changed meter: what its new entry does to its live fields, and a rebound meter is not fresh. -/
theorem applyChange_meter_live_self (i : MeterId) (x : MeterEntry) (s : State) :
    (applyChange (.meter i x) s).live[i] = { meterLiveAfter s.plan.meters[i] x s.live[i] with
      fresh := (meterLiveAfter s.plan.meters[i] x s.live[i]).fresh && !rebound s.plan.meters[i] x } := by
  rw [applyChange_meter_live, if_pos rfl]
  cases rebound s.plan.meters[i] x
  · rw [if_neg Bool.false_ne_true, Bool.not_false, Bool.and_true]
  · rw [if_pos rfl, Bool.not_true, Bool.and_false]

theorem applyChange_meter_live_stays {i : MeterId} {x : MeterEntry} {s : State}
    (h : rebound s.plan.meters[i] x = false) :
    (applyChange (.meter i x) s).live[i] = meterLiveAfter s.plan.meters[i] x s.live[i] := by
  rw [applyChange_meter_live_self, h, Bool.not_false, Bool.and_true]

theorem applyChange_meter_live_reset {i : MeterId} {x : MeterEntry} {s : State}
    (ho : s.plan.meters[i].kind ≠ .unused) (hn : x.kind ≠ .unused) (h : ¬ sameIdentity s.plan.meters[i] x = true) :
    (applyChange (.meter i x) s).live[i] = s.live[i].reset := by
  rw [applyChange_meter_live_self, meterLiveAfter_reset ho hn h]
  rfl

/-- A meter that keeps its identity keeps its live fields, but for the fresh flag of a UNIT meter rebound. -/
theorem applyChange_meter_live_same {i : MeterId} {x : MeterEntry} {s : State}
    (h : sameIdentity s.plan.meters[i] x = true) : (applyChange (.meter i x) s).live[i] = { s.live[i] with
      fresh := s.live[i].fresh && !(s.plan.meters[i].kind == .unit && s.plan.meters[i].binding != x.binding) } := by
  rw [applyChange_meter_live_self, meterLiveAfter_same h, rebound_of_same ((sameIdentity_iff _ _).mp h).1]

/-! ## The debt written off (R124) -/

theorem applyChange_meter_results (i : MeterId) (x : MeterEntry) (s : State) :
    (applyChange (.meter i x) s).results =
      addWrittenOff s.plan.meters[i].medium (debtWrittenOff s.plan.meters[i] x s.live[i])
        { s.results with applied := true } := by
  unfold applyChange occupancyAfterMeter applyMeter
  dsimp only
  split <;> rfl

theorem addWrittenOff_zero (m : Medium) (r : ChangeResults) : addWrittenOff m 0 r = r := by cases m <;> rfl

theorem addWrittenOff_frame (m : Medium) (n : Nat) (r : ChangeResults) :
    addWrittenOff m n r = { r with writtenOff := (addWrittenOff m n r).writtenOff } := by cases m <;> rfl

theorem addWrittenOff_get (m : Medium) (n : Nat) (r : ChangeResults) (k : Medium) :
    (addWrittenOff m n r).writtenOff.get k = r.writtenOff.get k + if k = m then n else 0 := by
  cases m <;> cases k <;> rfl

theorem debtWrittenOff_of_unused {old new : MeterEntry} (h : old.kind = .unused) (l : MeterLive) :
    debtWrittenOff old new l = 0 := if_neg fun hc => hc.1 h

theorem debtWrittenOff_of_same {old new : MeterEntry} (h : sameIdentity old new = true) (l : MeterLive) :
    debtWrittenOff old new l = 0 := by
  refine if_neg ?_
  rintro ⟨hold, hnew | hother⟩
  · exact hold ((sameIdentity_iff _ _).mp h |>.1.trans hnew)
  · rw [h] at hother
    exact nomatch hother

theorem debtWrittenOff_of_other {old new : MeterEntry} (ho : old.kind ≠ .unused) (h : ¬ sameIdentity old new = true)
    (l : MeterLive) : debtWrittenOff old new l = l.debt := if_pos ⟨ho, .inr (Bool.not_eq_true _ ▸ h)⟩

/-! ## The outstanding counts (R105) -/

theorem applyChange_meter_occ_outstanding (i : MeterId) (x : MeterEntry) (s : State) (u : UnitId) :
    (applyChange (.meter i x) s).occ[u] =
      { s.occ[u] with outstanding := (applyChange (.meter i x) s).occ[u].outstanding } := by
  rw [applyChange_meter_occ]
  generalize s.occ[u] = r, staleCount _ _ u = n
  split <;> rfl

/-- A waiting slot that holds its count holds it after the change: recounted, or not touched. -/
theorem applyChange_meter_recount {i : MeterId} {x : MeterEntry} {s : State} {u : UnitId}
    (hw : s.occ[u].state.waits = true) (hcount : s.occ[u].outstanding = staleCount s.plan s.live u) :
    (applyChange (.meter i x) s).occ[u].outstanding =
      staleCount (applyChange (.meter i x) s).plan (applyChange (.meter i x) s).live u := by
  rw [applyChange_meter_occ, hw, Bool.and_true]
  cases ht : touchesSlot s.plan.meters[i] x u
  · rw [if_neg Bool.false_ne_true, staleCount_applyChange ht, hcount]
  · rw [if_pos rfl]

theorem applyChange_meter_occ_idle {i : MeterId} {x : MeterEntry} {s : State} {u : UnitId}
    (hw : s.occ[u].state.waits = false) : (applyChange (.meter i x) s).occ[u] = s.occ[u] := by
  rw [applyChange_meter_occ, hw, Bool.and_false, if_neg Bool.false_ne_true]

theorem waits_iff (o : Occupancy) : o.waits = true ↔ o = .opening ∨ o = .closing := by cases o <;> decide

/-! ## The stage -/

/-- The change leaves everything but the plan, the live fields, unit occupancy and the change results. -/
theorem applyChange_frame_of_plan {e : PlanEntry} {s : State} {p : Plan} (hplan : (applyChange e s).plan = p) :
    applyChange e s = { s with
      live := (applyChange e s).live, occ := (applyChange e s).occ, results := (applyChange e s).results
      plan := p } := by
  obtain ⟨p', l, oc, r, h⟩ := applyChange_frame e s
  rw [h] at hplan ⊢
  cases hplan
  rfl

theorem execStageChanges_meter {s : State} {c : Close} {n : BitVec 12} {q : Quad} {i : MeterId} {new : MeterEntry}
    (hc : s.close = some c) (hn : c.next = .changes) (hq : s.changes = [{ entry := n, words := q }])
    (he : decodeEntry n.toNat q = some (.meter i new)) (hcheck : checkEntry s (.meter i new) = none) :
    exec .stageChanges s = .next (applyChange (.meter i new) (s.takingChanges c)) := by
  rw [execStageChanges_one hc hn hq, handleChange_applies he ((checkEntry_takingChanges c s _).trans hcheck)]

/-- Settles O31: the entry taken, and each of its effects by its own rule. -/
theorem stageChangesAppliesAMeterEntry : Obligations.StageChangesAppliesAMeterEntry := by
  rintro s c n q i new _ _ hc hn hq he hcheck rfl rfl
  have results_eq := applyChange_meter_results i new (s.takingChanges c)
  refine ⟨applyChange (.meter i new) (s.takingChanges c), execStageChanges_meter hc hn hq he hcheck,
    applyChange_frame_of_plan (applyChange_meter_plan i new (s.takingChanges c)), fun j hj => applyChange_meter_live_other hj new _, ?absent,
    ?created, ?deleted, ?reset, ?same, ?kept, ?writtenOff, applyChange_meter_occ_outstanding i new _, ?waiting, ?idle⟩
  case absent =>
    exact fun ho hnew => (applyChange_meter_live_stays (s := s.takingChanges c) (rebound_of_old_unused ho)).trans
      (meterLiveAfter_absent ho hnew _)
  case created =>
    exact fun ho hnew => (applyChange_meter_live_stays (s := s.takingChanges c) (rebound_of_old_unused ho)).trans
      (meterLiveAfter_created ho hnew _)
  case deleted =>
    exact fun ho hnew => (applyChange_meter_live_stays (s := s.takingChanges c) (rebound_of_new_unused hnew)).trans
      (meterLiveAfter_deleted ho hnew _)
  case reset =>
    intro ho hnew hid
    rw [← sameIdentity_iff] at hid
    exact applyChange_meter_live_reset (s := s.takingChanges c) ho hnew hid
  case same =>
    intro _ hkind hmedium hscale hdigits
    exact applyChange_meter_live_same (s := s.takingChanges c)
      ((sameIdentity_iff _ _).mpr ⟨hkind, hmedium, hscale, hdigits⟩)
  case kept =>
    intro hcase
    have hzero : debtWrittenOff s.plan.meters[i] new s.live[i] = 0 := by
      rw [← sameIdentity_iff] at hcase
      exact hcase.elim (debtWrittenOff_of_unused · _) (debtWrittenOff_of_same · _)
    refine results_eq.trans ((congrArg (addWrittenOff _ · _) hzero).trans ?_)
    exact addWrittenOff_zero _ _
  case writtenOff =>
    intro ho hid
    rw [← sameIdentity_iff] at hid
    have hdebt : debtWrittenOff s.plan.meters[i] new s.live[i] = s.live[i].debt := debtWrittenOff_of_other ho hid _
    have hoff := results_eq.trans (congrArg (addWrittenOff _ · _) hdebt)
    rw [hoff]
    exact ⟨addWrittenOff_frame _ _ _, addWrittenOff_get _ _ _⟩
  case waiting =>
    exact fun u hw => applyChange_meter_recount (s := s.takingChanges c) ((waits_iff _).mpr hw)
  case idle =>
    intro u hopening hclosing
    refine applyChange_meter_occ_idle (s := s.takingChanges c) (Bool.eq_false_iff.mpr fun hw => ?_)
    exact ((waits_iff _).mp hw).elim hopening hclosing

end Sys2Proof.Machine
end
